-- ==== Sys2Proof/Word.lean ====
section
/-! DEFINITION. The widths of the machine (spec 00_scope.md R7, R9): bytes, words and 20-bit physical addresses. -/

namespace Sys2Proof

/-- "unsigned 8-bit integer" (00_scope.md R12). -/
abbrev Byte := BitVec 8

/-- "unsigned 16-bit integer" (00_scope.md R12): registers, offsets, segment values. -/
abbrev Word := BitVec 16

/-- A 20-bit physical address (00_scope.md R7, 10_state.md R33). Arithmetic on it wraps modulo 2^20 (20_memory.md R61). -/
abbrev PAddr := BitVec 20

end Sys2Proof
end

