-- ==== Sys2Proof/Config.lean ====
section
/-! DEFINITION. What is fixed for the machine (00_scope.md R7) and the parameters the spec leaves to the host (00_scope.md R8, 10_state.md R41). -/

namespace Sys2Proof.Config

/-- The mask of the meaningful bits of FLAGS (10_state.md R27): CF, PF, AF, ZF, SF, TF, IF, DF, OF. -/
def flagsMask : Word := 0x0FD5

/-- The number of memory bytes, 2^20 (00_scope.md R7). -/
def memBytes : Nat := 1048576

/-- What memory holds where nothing has been written: `reset()` zeroes it (10_state.md R40). -/
def unlistedByte : Byte := 0

/-- The longest admitted instruction (30_encoding.md R90). -/
def maxInstrBytes : Nat := 6

/-- The number of offsets in one segment, 2^16 (00_scope.md R9). -/
def segmentOffsets : Nat := 65536

/-- The reset values that are not zero (10_state.md R40). -/
def resetCs : Word := 0x0010
def resetDs : Word := 0x0020
def resetSs : Word := 0x0030
def resetSp : Word := 0x00FF

/-- `UNHANDLED_INT`: what `INT n` does when no handler exists (00_scope.md R8, decision D18). -/
inductive UnhandledInt where
  | fault
  | noop
  deriving DecidableEq, Repr

/-- The host's standing parameters. DESIGN CHOICE (log 4, 5): they are plain data carried by State, so a statement about every state holds for every choice. -/
structure HostParams where
  /-- `UNHANDLED_INT` (D18). -/
  unhandledInt : UnhandledInt
  /-- The numbers `n` for which the host supplies a handler, beside 0x21, whose handler always exists (60_exceptions.md R430). -/
  intHandlers : List Byte
  deriving DecidableEq, Repr

/-- The spec's recommended defaults: `fault` (D18) and no other handler (D41). DESIGN CHOICE (log 4, 5). -/
def HostParams.default : HostParams := { unhandledInt := .fault, intHandlers := [] }

end Sys2Proof.Config
end

