-- ==== Sys2Proof/Machine/Bits.lean ====
section
/-! DEFINITION. Bit fields, sign extension and byte order, in one place (00_scope.md R9, R10; 20_memory.md R67; 30_encoding.md R92, R95). -/

namespace Sys2Proof

/-- Bits 7:0 of a word, the byte at the lower address (20_memory.md R67). -/
def loByte (v : Word) : Byte := v.extractLsb' 0 8

/-- Bits 15:8 of a word, the byte at the higher address (20_memory.md R67). -/
def hiByte (v : Word) : Byte := v.extractLsb' 8 8

/-- `lo | (hi << 8)` (20_memory.md R63; 40_execution_cycle.md R143). -/
def leWord (lo hi : Byte) : Word := hi ++ lo

/-- `sext_16` of a byte (00_scope.md R10; 30_encoding.md R95). -/
def sext16 (v : Byte) : Word := v.signExtend 16

/-- Bits 7:4 of an opcode byte: the row of the opcode map. -/
def hiNibble (b : Byte) : BitVec 4 := b.extractLsb' 4 4

/-- Bits 3:0 of an opcode byte: the column of the opcode map, and `cc` of a conditional jump (30_encoding.md R91). -/
def loNibble (b : Byte) : BitVec 4 := b.extractLsb' 0 4

/-- Bits 2:0: the register field of a one-byte opcode and the `rm` field of ModR/M (30_encoding.md R91, R92). -/
def low3 (b : Byte) : BitVec 3 := b.extractLsb' 0 3

/-- Bits 5:3 of ModR/M: `reg`, or the opcode extension (30_encoding.md R92). -/
def mid3 (b : Byte) : BitVec 3 := b.extractLsb' 3 3

/-- Bits 7:6 of ModR/M: `mod` (30_encoding.md R92). -/
def top2 (b : Byte) : BitVec 2 := b.extractLsb' 6 2

/-- The ModR/M byte with the given fields (30_encoding.md R92). -/
def modRmByte (mod : BitVec 2) (reg rm : BitVec 3) : Byte := (mod ++ reg) ++ rm

end Sys2Proof
end

