-- ==== Sys2Proof/Syntax.lean ====
section
/-! DEFINITION. The instructions as data: one constructor of `Instr` for each row of spec/opcode_table.json, with its operands (30_encoding.md R90 to R97, R101, R123; 40_execution_cycle.md R145). -/

namespace Sys2Proof

/-- The eight 16-bit general registers (10_state.md R21). -/
inductive Reg16 where
  | ax | cx | dx | bx | sp | bp | si | di
  deriving DecidableEq, Repr

/-- The eight 8-bit views (10_state.md R21). -/
inductive Reg8 where
  | al | cl | dl | bl | ah | ch | dh | bh
  deriving DecidableEq, Repr

/-- The four segment registers (10_state.md R31). -/
inductive Sreg where
  | es | cs | ss | ds
  deriving DecidableEq, Repr

/-- The base and index registers of a memory operand, in the order of the `rm` field (30_encoding.md R93). -/
inductive BaseIndex where
  | bxSi | bxDi | bpSi | bpDi | si | di | bp | bx
  deriving DecidableEq, Repr

/-- A memory operand as encoded (30_encoding.md R93, R94): which displacement it carries is part of the encoding. -/
inductive MemOperand where
  /-- mod = 00, rm ≠ 110. -/
  | noDisp (b : BaseIndex)
  /-- mod = 01: one displacement byte, sign-extended. -/
  | disp8 (b : BaseIndex) (d : Byte)
  /-- mod = 10: two displacement bytes. -/
  | disp16 (b : BaseIndex) (d : Word)
  /-- mod = 00, rm = 110: a direct address. -/
  | direct (d : Word)
  deriving DecidableEq, Repr

/-- The r/m operand: a register (mod = 11) or memory (40_execution_cycle.md R146). -/
inductive RegMem (ρ : Type) where
  | reg (r : ρ)
  | mem (m : MemOperand)
  deriving DecidableEq, Repr

/-- An 8-bit r/m operand. -/
abbrev Rm8 := RegMem Reg8

/-- A 16-bit r/m operand. -/
abbrev Rm16 := RegMem Reg16

/-- The string instructions admitted after 0xF3 (30_encoding.md R123). -/
inductive StringOp where
  | movsb | movsw | cmpsb | cmpsw | stosb | stosw | lodsb | lodsw | scasb | scasw
  deriving DecidableEq, Repr

/-- The string instructions admitted after 0xF2 (30_encoding.md R123). -/
inductive CompareOp where
  | cmpsb | cmpsw | scasb | scasw
  deriving DecidableEq, Repr

/-- The instructions: one constructor for each row of spec/opcode_table.json, in its order.
The destination operand comes first. Relative displacements, `simm8` and `moffs16` are held as encoded. -/
inductive Instr where
  /-- `00` ADD r/m8, r8 (R221). -/
  | addRm8R8 (d : Rm8) (s : Reg8)
  /-- `01` ADD r/m16, r16 (R221). -/
  | addRm16R16 (d : Rm16) (s : Reg16)
  /-- `02` ADD r8, r/m8 (R221). -/
  | addR8Rm8 (d : Reg8) (s : Rm8)
  /-- `03` ADD r16, r/m16 (R221). -/
  | addR16Rm16 (d : Reg16) (s : Rm16)
  /-- `04` ADD AL, imm8 (R221). -/
  | addAlImm8 (v : Byte)
  /-- `05` ADD AX, imm16 (R221). -/
  | addAxImm16 (v : Word)
  /-- `80 /0` ADD r/m8, imm8 (R221). -/
  | addRm8Imm8 (d : Rm8) (v : Byte)
  /-- `81 /0` ADD r/m16, imm16 (R221). -/
  | addRm16Imm16 (d : Rm16) (v : Word)
  /-- `83 /0` ADD r/m16, simm8 (R221). -/
  | addRm16Simm8 (d : Rm16) (v : Byte)
  /-- `08` OR r/m8, r8 (R251). -/
  | orRm8R8 (d : Rm8) (s : Reg8)
  /-- `09` OR r/m16, r16 (R251). -/
  | orRm16R16 (d : Rm16) (s : Reg16)
  /-- `0A` OR r8, r/m8 (R251). -/
  | orR8Rm8 (d : Reg8) (s : Rm8)
  /-- `0B` OR r16, r/m16 (R251). -/
  | orR16Rm16 (d : Reg16) (s : Rm16)
  /-- `0C` OR AL, imm8 (R251). -/
  | orAlImm8 (v : Byte)
  /-- `0D` OR AX, imm16 (R251). -/
  | orAxImm16 (v : Word)
  /-- `80 /1` OR r/m8, imm8 (R251). -/
  | orRm8Imm8 (d : Rm8) (v : Byte)
  /-- `81 /1` OR r/m16, imm16 (R251). -/
  | orRm16Imm16 (d : Rm16) (v : Word)
  /-- `83 /1` OR r/m16, simm8 (R251). -/
  | orRm16Simm8 (d : Rm16) (v : Byte)
  /-- `10` ADC r/m8, r8 (R222). -/
  | adcRm8R8 (d : Rm8) (s : Reg8)
  /-- `11` ADC r/m16, r16 (R222). -/
  | adcRm16R16 (d : Rm16) (s : Reg16)
  /-- `12` ADC r8, r/m8 (R222). -/
  | adcR8Rm8 (d : Reg8) (s : Rm8)
  /-- `13` ADC r16, r/m16 (R222). -/
  | adcR16Rm16 (d : Reg16) (s : Rm16)
  /-- `14` ADC AL, imm8 (R222). -/
  | adcAlImm8 (v : Byte)
  /-- `15` ADC AX, imm16 (R222). -/
  | adcAxImm16 (v : Word)
  /-- `80 /2` ADC r/m8, imm8 (R222). -/
  | adcRm8Imm8 (d : Rm8) (v : Byte)
  /-- `81 /2` ADC r/m16, imm16 (R222). -/
  | adcRm16Imm16 (d : Rm16) (v : Word)
  /-- `83 /2` ADC r/m16, simm8 (R222). -/
  | adcRm16Simm8 (d : Rm16) (v : Byte)
  /-- `18` SBB r/m8, r8 (R224). -/
  | sbbRm8R8 (d : Rm8) (s : Reg8)
  /-- `19` SBB r/m16, r16 (R224). -/
  | sbbRm16R16 (d : Rm16) (s : Reg16)
  /-- `1A` SBB r8, r/m8 (R224). -/
  | sbbR8Rm8 (d : Reg8) (s : Rm8)
  /-- `1B` SBB r16, r/m16 (R224). -/
  | sbbR16Rm16 (d : Reg16) (s : Rm16)
  /-- `1C` SBB AL, imm8 (R224). -/
  | sbbAlImm8 (v : Byte)
  /-- `1D` SBB AX, imm16 (R224). -/
  | sbbAxImm16 (v : Word)
  /-- `80 /3` SBB r/m8, imm8 (R224). -/
  | sbbRm8Imm8 (d : Rm8) (v : Byte)
  /-- `81 /3` SBB r/m16, imm16 (R224). -/
  | sbbRm16Imm16 (d : Rm16) (v : Word)
  /-- `83 /3` SBB r/m16, simm8 (R224). -/
  | sbbRm16Simm8 (d : Rm16) (v : Byte)
  /-- `20` AND r/m8, r8 (R250). -/
  | andRm8R8 (d : Rm8) (s : Reg8)
  /-- `21` AND r/m16, r16 (R250). -/
  | andRm16R16 (d : Rm16) (s : Reg16)
  /-- `22` AND r8, r/m8 (R250). -/
  | andR8Rm8 (d : Reg8) (s : Rm8)
  /-- `23` AND r16, r/m16 (R250). -/
  | andR16Rm16 (d : Reg16) (s : Rm16)
  /-- `24` AND AL, imm8 (R250). -/
  | andAlImm8 (v : Byte)
  /-- `25` AND AX, imm16 (R250). -/
  | andAxImm16 (v : Word)
  /-- `80 /4` AND r/m8, imm8 (R250). -/
  | andRm8Imm8 (d : Rm8) (v : Byte)
  /-- `81 /4` AND r/m16, imm16 (R250). -/
  | andRm16Imm16 (d : Rm16) (v : Word)
  /-- `83 /4` AND r/m16, simm8 (R250). -/
  | andRm16Simm8 (d : Rm16) (v : Byte)
  /-- `28` SUB r/m8, r8 (R223). -/
  | subRm8R8 (d : Rm8) (s : Reg8)
  /-- `29` SUB r/m16, r16 (R223). -/
  | subRm16R16 (d : Rm16) (s : Reg16)
  /-- `2A` SUB r8, r/m8 (R223). -/
  | subR8Rm8 (d : Reg8) (s : Rm8)
  /-- `2B` SUB r16, r/m16 (R223). -/
  | subR16Rm16 (d : Reg16) (s : Rm16)
  /-- `2C` SUB AL, imm8 (R223). -/
  | subAlImm8 (v : Byte)
  /-- `2D` SUB AX, imm16 (R223). -/
  | subAxImm16 (v : Word)
  /-- `80 /5` SUB r/m8, imm8 (R223). -/
  | subRm8Imm8 (d : Rm8) (v : Byte)
  /-- `81 /5` SUB r/m16, imm16 (R223). -/
  | subRm16Imm16 (d : Rm16) (v : Word)
  /-- `83 /5` SUB r/m16, simm8 (R223). -/
  | subRm16Simm8 (d : Rm16) (v : Byte)
  /-- `30` XOR r/m8, r8 (R252). -/
  | xorRm8R8 (d : Rm8) (s : Reg8)
  /-- `31` XOR r/m16, r16 (R252). -/
  | xorRm16R16 (d : Rm16) (s : Reg16)
  /-- `32` XOR r8, r/m8 (R252). -/
  | xorR8Rm8 (d : Reg8) (s : Rm8)
  /-- `33` XOR r16, r/m16 (R252). -/
  | xorR16Rm16 (d : Reg16) (s : Rm16)
  /-- `34` XOR AL, imm8 (R252). -/
  | xorAlImm8 (v : Byte)
  /-- `35` XOR AX, imm16 (R252). -/
  | xorAxImm16 (v : Word)
  /-- `80 /6` XOR r/m8, imm8 (R252). -/
  | xorRm8Imm8 (d : Rm8) (v : Byte)
  /-- `81 /6` XOR r/m16, imm16 (R252). -/
  | xorRm16Imm16 (d : Rm16) (v : Word)
  /-- `83 /6` XOR r/m16, simm8 (R252). -/
  | xorRm16Simm8 (d : Rm16) (v : Byte)
  /-- `38` CMP r/m8, r8 (R225). -/
  | cmpRm8R8 (d : Rm8) (s : Reg8)
  /-- `39` CMP r/m16, r16 (R225). -/
  | cmpRm16R16 (d : Rm16) (s : Reg16)
  /-- `3A` CMP r8, r/m8 (R225). -/
  | cmpR8Rm8 (d : Reg8) (s : Rm8)
  /-- `3B` CMP r16, r/m16 (R225). -/
  | cmpR16Rm16 (d : Reg16) (s : Rm16)
  /-- `3C` CMP AL, imm8 (R225). -/
  | cmpAlImm8 (v : Byte)
  /-- `3D` CMP AX, imm16 (R225). -/
  | cmpAxImm16 (v : Word)
  /-- `80 /7` CMP r/m8, imm8 (R225). -/
  | cmpRm8Imm8 (d : Rm8) (v : Byte)
  /-- `81 /7` CMP r/m16, imm16 (R225). -/
  | cmpRm16Imm16 (d : Rm16) (v : Word)
  /-- `83 /7` CMP r/m16, simm8 (R225). -/
  | cmpRm16Simm8 (d : Rm16) (v : Byte)
  /-- `06` PUSH ES (R198). -/
  | pushEs
  /-- `0E` PUSH CS (R198). -/
  | pushCs
  /-- `16` PUSH SS (R198). -/
  | pushSs
  /-- `1E` PUSH DS (R198). -/
  | pushDs
  /-- `07` POP ES (R201). -/
  | popEs
  /-- `17` POP SS (R201). -/
  | popSs
  /-- `1F` POP DS (R201). -/
  | popDs
  /-- `40+reg` INC r16 (R226). -/
  | incR16 (r : Reg16)
  /-- `48+reg` DEC r16 (R228). -/
  | decR16 (r : Reg16)
  /-- `50+reg` PUSH r16 (R197). -/
  | pushR16 (r : Reg16)
  /-- `58+reg` POP r16 (R200). -/
  | popR16 (r : Reg16)
  /-- `70` JO rel8 (R345). -/
  | joRel8 (disp : Byte)
  /-- `71` JNO rel8 (R346). -/
  | jnoRel8 (disp : Byte)
  /-- `72` JB/JNAE/JC rel8 (R347). -/
  | jbRel8 (disp : Byte)
  /-- `73` JNB/JAE/JNC rel8 (R348). -/
  | jnbRel8 (disp : Byte)
  /-- `74` JE/JZ rel8 (R349). -/
  | jeRel8 (disp : Byte)
  /-- `75` JNE/JNZ rel8 (R350). -/
  | jneRel8 (disp : Byte)
  /-- `76` JBE/JNA rel8 (R351). -/
  | jbeRel8 (disp : Byte)
  /-- `77` JA/JNBE rel8 (R352). -/
  | jaRel8 (disp : Byte)
  /-- `78` JS rel8 (R353). -/
  | jsRel8 (disp : Byte)
  /-- `79` JNS rel8 (R354). -/
  | jnsRel8 (disp : Byte)
  /-- `7A` JP/JPE rel8 (R355). -/
  | jpRel8 (disp : Byte)
  /-- `7B` JNP/JPO rel8 (R356). -/
  | jnpRel8 (disp : Byte)
  /-- `7C` JL/JNGE rel8 (R357). -/
  | jlRel8 (disp : Byte)
  /-- `7D` JGE/JNL rel8 (R358). -/
  | jgeRel8 (disp : Byte)
  /-- `7E` JLE/JNG rel8 (R359). -/
  | jleRel8 (disp : Byte)
  /-- `7F` JG/JNLE rel8 (R360). -/
  | jgRel8 (disp : Byte)
  /-- `84` TEST r/m8, r8 (R253). -/
  | testRm8R8 (d : Rm8) (s : Reg8)
  /-- `85` TEST r/m16, r16 (R253). -/
  | testRm16R16 (d : Rm16) (s : Reg16)
  /-- `88` MOV r/m8, r8 (R190). -/
  | movRm8R8 (d : Rm8) (s : Reg8)
  /-- `89` MOV r/m16, r16 (R190). -/
  | movRm16R16 (d : Rm16) (s : Reg16)
  /-- `8A` MOV r8, r/m8 (R191). -/
  | movR8Rm8 (d : Reg8) (s : Rm8)
  /-- `8B` MOV r16, r/m16 (R191). -/
  | movR16Rm16 (d : Reg16) (s : Rm16)
  /-- `8C /0` MOV r/m16, ES (R195). -/
  | movRm16Es (r : Rm16)
  /-- `8C /1` MOV r/m16, CS (R195). -/
  | movRm16Cs (r : Rm16)
  /-- `8C /2` MOV r/m16, SS (R195). -/
  | movRm16Ss (r : Rm16)
  /-- `8C /3` MOV r/m16, DS (R195). -/
  | movRm16Ds (r : Rm16)
  /-- `8E /0` MOV ES, r/m16 (R196). -/
  | movEsRm16 (r : Rm16)
  /-- `8E /2` MOV SS, r/m16 (R196). -/
  | movSsRm16 (r : Rm16)
  /-- `8E /3` MOV DS, r/m16 (R196). -/
  | movDsRm16 (r : Rm16)
  /-- `8F /0` POP r/m16 (R202). -/
  | popRm16 (r : Rm16)
  /-- `90` NOP (R328). -/
  | nop
  /-- `98` CBW (R304). -/
  | cbw
  /-- `99` CWD (R305). -/
  | cwd
  /-- `9A` CALL ptr16:16 (R371). -/
  | callFar (off : Word) (seg : Word)
  /-- `9E` SAHF (R321). -/
  | sahf
  /-- `9F` LAHF (R320). -/
  | lahf
  /-- `A0` MOV AL, [moffs16] (R193). -/
  | movAlMoffs (off : Word)
  /-- `A1` MOV AX, [moffs16] (R193). -/
  | movAxMoffs (off : Word)
  /-- `A2` MOV [moffs16], AL (R194). -/
  | movMoffsAl (off : Word)
  /-- `A3` MOV [moffs16], AX (R194). -/
  | movMoffsAx (off : Word)
  /-- `A4` MOVSB (R391). -/
  | movsb
  /-- `A5` MOVSW (R391). -/
  | movsw
  /-- `A6` CMPSB (R394). -/
  | cmpsb
  /-- `A7` CMPSW (R394). -/
  | cmpsw
  /-- `A8` TEST AL, imm8 (R253). -/
  | testAlImm8 (v : Byte)
  /-- `A9` TEST AX, imm16 (R253). -/
  | testAxImm16 (v : Word)
  /-- `AA` STOSB (R392). -/
  | stosb
  /-- `AB` STOSW (R392). -/
  | stosw
  /-- `AC` LODSB (R393). -/
  | lodsb
  /-- `AD` LODSW (R393). -/
  | lodsw
  /-- `AE` SCASB (R395). -/
  | scasb
  /-- `AF` SCASW (R395). -/
  | scasw
  /-- `B0+reg` MOV r8, imm8 (R192). -/
  | movR8Imm8 (d : Reg8) (v : Byte)
  /-- `B8+reg` MOV r16, imm16 (R192). -/
  | movR16Imm16 (d : Reg16) (v : Word)
  /-- `C2` RET imm16 (R373). -/
  | retImm16 (v : Word)
  /-- `C3` RET (R372). -/
  | ret
  /-- `CA` RETF imm16 (R375). -/
  | retfImm16 (v : Word)
  /-- `CB` RETF (R374). -/
  | retf
  /-- `CD` INT imm8 (R378). -/
  | intImm8 (v : Byte)
  /-- `CF` IRET (R379). -/
  | iret
  /-- `D0 /0` ROL r/m8, 1 (R271). -/
  | rolRm8One (r : Rm8)
  /-- `D0 /1` ROR r/m8, 1 (R272). -/
  | rorRm8One (r : Rm8)
  /-- `D0 /2` RCL r/m8, 1 (R273). -/
  | rclRm8One (r : Rm8)
  /-- `D0 /3` RCR r/m8, 1 (R274). -/
  | rcrRm8One (r : Rm8)
  /-- `D0 /4` SHL/SAL r/m8, 1 (R275). -/
  | shlRm8One (r : Rm8)
  /-- `D0 /5` SHR r/m8, 1 (R276). -/
  | shrRm8One (r : Rm8)
  /-- `D0 /7` SAR r/m8, 1 (R277). -/
  | sarRm8One (r : Rm8)
  /-- `D1 /0` ROL r/m16, 1 (R271). -/
  | rolRm16One (r : Rm16)
  /-- `D1 /1` ROR r/m16, 1 (R272). -/
  | rorRm16One (r : Rm16)
  /-- `D1 /2` RCL r/m16, 1 (R273). -/
  | rclRm16One (r : Rm16)
  /-- `D1 /3` RCR r/m16, 1 (R274). -/
  | rcrRm16One (r : Rm16)
  /-- `D1 /4` SHL/SAL r/m16, 1 (R275). -/
  | shlRm16One (r : Rm16)
  /-- `D1 /5` SHR r/m16, 1 (R276). -/
  | shrRm16One (r : Rm16)
  /-- `D1 /7` SAR r/m16, 1 (R277). -/
  | sarRm16One (r : Rm16)
  /-- `D2 /0` ROL r/m8, CL (R271). -/
  | rolRm8Cl (r : Rm8)
  /-- `D2 /1` ROR r/m8, CL (R272). -/
  | rorRm8Cl (r : Rm8)
  /-- `D2 /2` RCL r/m8, CL (R273). -/
  | rclRm8Cl (r : Rm8)
  /-- `D2 /3` RCR r/m8, CL (R274). -/
  | rcrRm8Cl (r : Rm8)
  /-- `D2 /4` SHL/SAL r/m8, CL (R275). -/
  | shlRm8Cl (r : Rm8)
  /-- `D2 /5` SHR r/m8, CL (R276). -/
  | shrRm8Cl (r : Rm8)
  /-- `D2 /7` SAR r/m8, CL (R277). -/
  | sarRm8Cl (r : Rm8)
  /-- `D3 /0` ROL r/m16, CL (R271). -/
  | rolRm16Cl (r : Rm16)
  /-- `D3 /1` ROR r/m16, CL (R272). -/
  | rorRm16Cl (r : Rm16)
  /-- `D3 /2` RCL r/m16, CL (R273). -/
  | rclRm16Cl (r : Rm16)
  /-- `D3 /3` RCR r/m16, CL (R274). -/
  | rcrRm16Cl (r : Rm16)
  /-- `D3 /4` SHL/SAL r/m16, CL (R275). -/
  | shlRm16Cl (r : Rm16)
  /-- `D3 /5` SHR r/m16, CL (R276). -/
  | shrRm16Cl (r : Rm16)
  /-- `D3 /7` SAR r/m16, CL (R277). -/
  | sarRm16Cl (r : Rm16)
  /-- `E0` LOOPNE/LOOPNZ rel8 (R363). -/
  | loopneRel8 (disp : Byte)
  /-- `E1` LOOPE/LOOPZ rel8 (R362). -/
  | loopeRel8 (disp : Byte)
  /-- `E2` LOOP rel8 (R361). -/
  | loopRel8 (disp : Byte)
  /-- `E8` CALL rel16 (R370). -/
  | callRel16 (disp : Word)
  /-- `E9` JMP rel16 (R342). -/
  | jmpRel16 (disp : Word)
  /-- `EA` JMP ptr16:16 (R343). -/
  | jmpFar (off : Word) (seg : Word)
  /-- `EB` JMP rel8 (R341). -/
  | jmpRel8 (disp : Byte)
  /-- `F2` REPNE/REPNZ (prefix; admitted only before A6, A7, AE, AF) (R405). -/
  | repne (op : CompareOp)
  /-- `F3` REP/REPE/REPZ (prefix; REP before A4, A5, AA, AB, AC, AD; REPE before A6, A7, AE, AF) (R403). -/
  | rep (op : StringOp)
  /-- `F4` HLT (R329). -/
  | hlt
  /-- `F6 /0` TEST r/m8, imm8 (R253). -/
  | testRm8Imm8 (d : Rm8) (v : Byte)
  /-- `F6 /2` NOT r/m8 (R254). -/
  | notRm8 (r : Rm8)
  /-- `F6 /3` NEG r/m8 (R230). -/
  | negRm8 (r : Rm8)
  /-- `F6 /4` MUL r/m8 (R300). -/
  | mulRm8 (r : Rm8)
  /-- `F6 /5` IMUL r/m8 (R301). -/
  | imulRm8 (r : Rm8)
  /-- `F6 /6` DIV r/m8 (R302). -/
  | divRm8 (r : Rm8)
  /-- `F6 /7` IDIV r/m8 (R303). -/
  | idivRm8 (r : Rm8)
  /-- `F7 /0` TEST r/m16, imm16 (R253). -/
  | testRm16Imm16 (d : Rm16) (v : Word)
  /-- `F7 /2` NOT r/m16 (R254). -/
  | notRm16 (r : Rm16)
  /-- `F7 /3` NEG r/m16 (R230). -/
  | negRm16 (r : Rm16)
  /-- `F7 /4` MUL r/m16 (R300). -/
  | mulRm16 (r : Rm16)
  /-- `F7 /5` IMUL r/m16 (R301). -/
  | imulRm16 (r : Rm16)
  /-- `F7 /6` DIV r/m16 (R302). -/
  | divRm16 (r : Rm16)
  /-- `F7 /7` IDIV r/m16 (R303). -/
  | idivRm16 (r : Rm16)
  /-- `F8` CLC (R322). -/
  | clc
  /-- `F9` STC (R323). -/
  | stc
  /-- `FA` CLI (R324). -/
  | cli
  /-- `FB` STI (R325). -/
  | sti
  /-- `FC` CLD (R326). -/
  | cld
  /-- `FD` STD (R327). -/
  | std
  /-- `FE /0` INC r/m8 (R227). -/
  | incRm8 (r : Rm8)
  /-- `FE /1` DEC r/m8 (R229). -/
  | decRm8 (r : Rm8)
  /-- `FF /0` INC r/m16 (R227). -/
  | incRm16 (r : Rm16)
  /-- `FF /1` DEC r/m16 (R229). -/
  | decRm16 (r : Rm16)
  /-- `FF /6` PUSH r/m16 (R199). -/
  | pushRm16 (r : Rm16)
  deriving DecidableEq, Repr

end Sys2Proof
end

