-- ==== Sys2Proof/WellFormed.lean ====
section
/-! DEFINITION. Which terms of `Instr` are instructions: the memory operand must be one the ModR/M byte can encode (30_encoding.md R93). -/

namespace Sys2Proof

/-- mod = 00 with rm = 110 is the direct address, so `[BP]` needs a displacement (30_encoding.md R93). -/
def MemOperand.wellFormed : MemOperand → Bool
  | .noDisp b => b != .bp
  | .disp8 _ _ | .disp16 _ _ | .direct _ => true

/-- A register operand is always encodable. -/
def RegMem.wellFormed {ρ : Type} : RegMem ρ → Bool
  | .reg _ => true
  | .mem m => m.wellFormed

/-- An instruction is well formed when its r/m operand, if it has one, is encodable. -/
def Instr.wellFormed : Instr → Bool
  | .addRm8R8 o _ | .addR8Rm8 _ o | .addRm8Imm8 o _ | .orRm8R8 o _ | .orR8Rm8 _ o | .orRm8Imm8 o _ | .adcRm8R8 o _
  | .adcR8Rm8 _ o | .adcRm8Imm8 o _ | .sbbRm8R8 o _ | .sbbR8Rm8 _ o | .sbbRm8Imm8 o _ | .andRm8R8 o _ | .andR8Rm8 _ o
  | .andRm8Imm8 o _ | .subRm8R8 o _ | .subR8Rm8 _ o | .subRm8Imm8 o _ | .xorRm8R8 o _ | .xorR8Rm8 _ o | .xorRm8Imm8 o _
  | .cmpRm8R8 o _ | .cmpR8Rm8 _ o | .cmpRm8Imm8 o _ | .testRm8R8 o _ | .movRm8R8 o _ | .movR8Rm8 _ o | .rolRm8One o
  | .rorRm8One o | .rclRm8One o | .rcrRm8One o | .shlRm8One o | .shrRm8One o | .sarRm8One o | .rolRm8Cl o | .rorRm8Cl o
  | .rclRm8Cl o | .rcrRm8Cl o | .shlRm8Cl o | .shrRm8Cl o | .sarRm8Cl o | .testRm8Imm8 o _ | .notRm8 o | .negRm8 o | .mulRm8 o
  | .imulRm8 o | .divRm8 o | .idivRm8 o | .incRm8 o | .decRm8 o => o.wellFormed
  | .addRm16R16 o _ | .addR16Rm16 _ o | .addRm16Imm16 o _ | .addRm16Simm8 o _ | .orRm16R16 o _ | .orR16Rm16 _ o
  | .orRm16Imm16 o _ | .orRm16Simm8 o _ | .adcRm16R16 o _ | .adcR16Rm16 _ o | .adcRm16Imm16 o _ | .adcRm16Simm8 o _
  | .sbbRm16R16 o _ | .sbbR16Rm16 _ o | .sbbRm16Imm16 o _ | .sbbRm16Simm8 o _ | .andRm16R16 o _ | .andR16Rm16 _ o
  | .andRm16Imm16 o _ | .andRm16Simm8 o _ | .subRm16R16 o _ | .subR16Rm16 _ o | .subRm16Imm16 o _ | .subRm16Simm8 o _
  | .xorRm16R16 o _ | .xorR16Rm16 _ o | .xorRm16Imm16 o _ | .xorRm16Simm8 o _ | .cmpRm16R16 o _ | .cmpR16Rm16 _ o
  | .cmpRm16Imm16 o _ | .cmpRm16Simm8 o _ | .testRm16R16 o _ | .movRm16R16 o _ | .movR16Rm16 _ o | .movRm16Es o | .movRm16Cs o
  | .movRm16Ss o | .movRm16Ds o | .movEsRm16 o | .movSsRm16 o | .movDsRm16 o | .popRm16 o | .rolRm16One o | .rorRm16One o
  | .rclRm16One o | .rcrRm16One o | .shlRm16One o | .shrRm16One o | .sarRm16One o | .rolRm16Cl o | .rorRm16Cl o | .rclRm16Cl o
  | .rcrRm16Cl o | .shlRm16Cl o | .shrRm16Cl o | .sarRm16Cl o | .testRm16Imm16 o _ | .notRm16 o | .negRm16 o | .mulRm16 o
  | .imulRm16 o | .divRm16 o | .idivRm16 o | .incRm16 o | .decRm16 o | .pushRm16 o => o.wellFormed
  | .addAlImm8 _ | .addAxImm16 _ | .orAlImm8 _ | .orAxImm16 _ | .adcAlImm8 _ | .adcAxImm16 _ | .sbbAlImm8 _ | .sbbAxImm16 _
  | .andAlImm8 _ | .andAxImm16 _ | .subAlImm8 _ | .subAxImm16 _ | .xorAlImm8 _ | .xorAxImm16 _ | .cmpAlImm8 _ | .cmpAxImm16 _
  | .pushEs | .pushCs | .pushSs | .pushDs | .popEs | .popSs | .popDs | .incR16 _ | .decR16 _ | .pushR16 _ | .popR16 _ | .joRel8 _
  | .jnoRel8 _ | .jbRel8 _ | .jnbRel8 _ | .jeRel8 _ | .jneRel8 _ | .jbeRel8 _ | .jaRel8 _ | .jsRel8 _ | .jnsRel8 _ | .jpRel8 _
  | .jnpRel8 _ | .jlRel8 _ | .jgeRel8 _ | .jleRel8 _ | .jgRel8 _ | .nop | .cbw | .cwd | .callFar _ _ | .sahf | .lahf
  | .movAlMoffs _ | .movAxMoffs _ | .movMoffsAl _ | .movMoffsAx _ | .movsb | .movsw | .cmpsb | .cmpsw | .testAlImm8 _
  | .testAxImm16 _ | .stosb | .stosw | .lodsb | .lodsw | .scasb | .scasw | .movR8Imm8 _ _ | .movR16Imm16 _ _ | .retImm16 _ | .ret
  | .retfImm16 _ | .retf | .intImm8 _ | .iret | .loopneRel8 _ | .loopeRel8 _ | .loopRel8 _ | .callRel16 _ | .jmpRel16 _
  | .jmpFar _ _ | .jmpRel8 _ | .repne _ | .rep _ | .hlt | .clc | .stc | .cli | .sti | .cld | .std => true

/-- Well-formedness as a proposition. -/
abbrev WellFormed (i : Instr) : Prop := i.wellFormed = true

end Sys2Proof
end

