-- ==== Sys2Proof/Decode.lean ====
section
/-! DEFINITION. Decoding and encoding (30_encoding.md R90 to R101, R120 to R123; 40_execution_cycle.md R143 to R146).
The opcode map is written page by page: one page for each high nibble of the opcode byte, one arm for each admitted opcode, and a last arm that refuses the rest by name. -/

namespace Sys2Proof

/-- Why bytes are no instruction. The first three are `Fault(InvalidOpcode)` of the machine (60_exceptions.md R421). -/
inductive DecodeError where
  /-- The first byte is refused (30_encoding.md R120). -/
  | refusedOpcode (op : Byte)
  /-- The ModR/M reg field is refused for this opcode (30_encoding.md R121). -/
  | refusedExtension (op : Byte) (n : BitVec 3)
  /-- A repeat prefix before a byte it is not admitted with (30_encoding.md R121, R123). -/
  | refusedPair (first second : Byte)
  /-- The list of bytes ends inside the instruction. The machine always fetches enough bytes, so it never meets this. -/
  | truncated
  deriving DecidableEq, Repr

/-- What a decoding step answers: a value and the bytes not yet used, or a refusal by name. -/
abbrev Parsed (α : Type) := Except DecodeError (α × List Byte)

/-- Goes on with the value and the remaining bytes of a step that answered. -/
def Parsed.andThen {α β : Type} (p : Parsed α) (f : α → List Byte → Parsed β) : Parsed β :=
  match p with
  | .error e => .error e
  | .ok (a, bs) => f a bs

/-! ## Registers (10_state.md R22, R23, R31) -/

/-- `r16[i]` (10_state.md R22). -/
def Reg16.ofBits (n : BitVec 3) : Reg16 :=
  match n.toNat with
  | 0 => .ax | 1 => .cx | 2 => .dx | 3 => .bx | 4 => .sp | 5 => .bp | 6 => .si | _ => .di

/-- The number of a 16-bit register (10_state.md R22). -/
def Reg16.bits : Reg16 → BitVec 3
  | .ax => 0 | .cx => 1 | .dx => 2 | .bx => 3 | .sp => 4 | .bp => 5 | .si => 6 | .di => 7

/-- `r8[i]` (10_state.md R23). -/
def Reg8.ofBits (n : BitVec 3) : Reg8 :=
  match n.toNat with
  | 0 => .al | 1 => .cl | 2 => .dl | 3 => .bl | 4 => .ah | 5 => .ch | 6 => .dh | _ => .bh

/-- The number of an 8-bit register (10_state.md R23). -/
def Reg8.bits : Reg8 → BitVec 3
  | .al => 0 | .cl => 1 | .dl => 2 | .bl => 3 | .ah => 4 | .ch => 5 | .dh => 6 | .bh => 7

/-- The row of the effective-address table for an `rm` field (30_encoding.md R93). -/
def BaseIndex.ofBits (n : BitVec 3) : BaseIndex :=
  match n.toNat with
  | 0 => .bxSi | 1 => .bxDi | 2 => .bpSi | 3 => .bpDi | 4 => .si | 5 => .di | 6 => .bp | _ => .bx

/-- The `rm` field of a row of the effective-address table (30_encoding.md R93). -/
def BaseIndex.bits : BaseIndex → BitVec 3
  | .bxSi => 0 | .bxDi => 1 | .bpSi => 2 | .bpDi => 3 | .si => 4 | .di => 5 | .bp => 6 | .bx => 7

/-- The register operand renamed, memory kept. -/
def RegMem.map {α β : Type} (f : α → β) : RegMem α → RegMem β
  | .reg r => .reg (f r)
  | .mem m => .mem m

/-! ## Operands in the instruction stream (30_encoding.md R94, R95; 40_execution_cycle.md R144) -/

/-- One byte. -/
def takeByte : List Byte → Parsed Byte
  | b :: bs => .ok (b, bs)
  | [] => .error .truncated

/-- Two bytes, low byte first. -/
def takeWord : List Byte → Parsed Word
  | lo :: hi :: bs => .ok (leWord lo hi, bs)
  | _ => .error .truncated

/-- The r/m operand for the `mod` and `rm` fields, with its displacement bytes (30_encoding.md R93, R94). -/
def takeRm (mod : BitVec 2) (rm : BitVec 3) (bs : List Byte) : Parsed (RegMem (BitVec 3)) :=
  match mod.toNat with
  | 0 =>
    if rm = 6 then (takeWord bs).andThen fun d rest => .ok (.mem (.direct d), rest)
    else .ok (.mem (.noDisp (BaseIndex.ofBits rm)), bs)
  | 1 => (takeByte bs).andThen fun d rest => .ok (.mem (.disp8 (BaseIndex.ofBits rm) d), rest)
  | 2 => (takeWord bs).andThen fun d rest => .ok (.mem (.disp16 (BaseIndex.ofBits rm) d), rest)
  | _ => .ok (.reg rm, bs)

/-- Formats `ACC_IMM8`, `OP_REG_IMM8`, `IMM8`, `REL8`: one operand byte (30_encoding.md R97). -/
def byteOperand (k : Byte → Instr) (bs : List Byte) : Parsed Instr :=
  (takeByte bs).andThen fun v rest => .ok (k v, rest)

/-- Formats `ACC_IMM16`, `OP_REG_IMM16`, `IMM16`, `REL16`, `MOFFS`: one operand word (30_encoding.md R97). -/
def wordOperand (k : Word → Instr) (bs : List Byte) : Parsed Instr :=
  (takeWord bs).andThen fun v rest => .ok (k v, rest)

/-- Format `FAR`: offset, then segment (30_encoding.md R95, R97). -/
def farOperand (k : Word → Word → Instr) (bs : List Byte) : Parsed Instr :=
  (takeWord bs).andThen fun off rest => (takeWord rest).andThen fun seg rest' => .ok (k off seg, rest')

/-- Format `MODRM`: the reg field and the r/m operand (30_encoding.md R92, R97). -/
def modRm (k : BitVec 3 → RegMem (BitVec 3) → Instr) : List Byte → Parsed Instr
  | m :: bs => (takeRm (top2 m) (low3 m) bs).andThen fun o rest => .ok (k (mid3 m) o, rest)
  | [] => .error .truncated

/-- r/m8, r8. -/
def rm8Reg8 (k : Rm8 → Reg8 → Instr) : List Byte → Parsed Instr :=
  modRm fun reg o => k (o.map Reg8.ofBits) (Reg8.ofBits reg)

/-- r/m16, r16. -/
def rm16Reg16 (k : Rm16 → Reg16 → Instr) : List Byte → Parsed Instr :=
  modRm fun reg o => k (o.map Reg16.ofBits) (Reg16.ofBits reg)

/-- r8, r/m8. -/
def reg8Rm8 (k : Reg8 → Rm8 → Instr) : List Byte → Parsed Instr :=
  modRm fun reg o => k (Reg8.ofBits reg) (o.map Reg8.ofBits)

/-- r16, r/m16. -/
def reg16Rm16 (k : Reg16 → Rm16 → Instr) : List Byte → Parsed Instr :=
  modRm fun reg o => k (Reg16.ofBits reg) (o.map Reg16.ofBits)

/-- What follows the ModR/M byte of a group opcode, once the r/m operand is read. -/
abbrev GroupTail := RegMem (BitVec 3) → List Byte → Parsed Instr

/-- `MODRM_EXT` on a byte operand. -/
def tailRm8 (k : Rm8 → Instr) : GroupTail := fun o bs => .ok (k (o.map Reg8.ofBits), bs)

/-- `MODRM_EXT` on a word operand. -/
def tailRm16 (k : Rm16 → Instr) : GroupTail := fun o bs => .ok (k (o.map Reg16.ofBits), bs)

/-- `MODRM_EXT_IMM8` on a byte operand. -/
def tailRm8Byte (k : Rm8 → Byte → Instr) : GroupTail := fun o => byteOperand (k (o.map Reg8.ofBits))

/-- `MODRM_EXT_SIMM8` on a word operand. -/
def tailRm16Byte (k : Rm16 → Byte → Instr) : GroupTail := fun o => byteOperand (k (o.map Reg16.ofBits))

/-- `MODRM_EXT_IMM16` on a word operand. -/
def tailRm16Word (k : Rm16 → Word → Instr) : GroupTail := fun o => wordOperand (k (o.map Reg16.ofBits))

/-- A group opcode: the reg field selects the instruction, and a refused one is refused before any displacement byte is read (30_encoding.md R121; 40_execution_cycle.md R140 step 3). -/
def group (op : Byte) (select : BitVec 3 → Option GroupTail) : List Byte → Parsed Instr
  | m :: bs =>
    match select (mid3 m) with
    | none => .error (.refusedExtension op (mid3 m))
    | some k => (takeRm (top2 m) (low3 m) bs).andThen k
  | [] => .error .truncated

/-! ## The group opcodes (30_encoding.md R101, R121) -/

/-- Opcode 0x80. -/
def group80 (n : BitVec 3) : Option GroupTail :=
  match n.toNat with
  | 0 => some (tailRm8Byte .addRm8Imm8)
  | 1 => some (tailRm8Byte .orRm8Imm8)
  | 2 => some (tailRm8Byte .adcRm8Imm8)
  | 3 => some (tailRm8Byte .sbbRm8Imm8)
  | 4 => some (tailRm8Byte .andRm8Imm8)
  | 5 => some (tailRm8Byte .subRm8Imm8)
  | 6 => some (tailRm8Byte .xorRm8Imm8)
  | _ => some (tailRm8Byte .cmpRm8Imm8)

/-- Opcode 0x81. -/
def group81 (n : BitVec 3) : Option GroupTail :=
  match n.toNat with
  | 0 => some (tailRm16Word .addRm16Imm16)
  | 1 => some (tailRm16Word .orRm16Imm16)
  | 2 => some (tailRm16Word .adcRm16Imm16)
  | 3 => some (tailRm16Word .sbbRm16Imm16)
  | 4 => some (tailRm16Word .andRm16Imm16)
  | 5 => some (tailRm16Word .subRm16Imm16)
  | 6 => some (tailRm16Word .xorRm16Imm16)
  | _ => some (tailRm16Word .cmpRm16Imm16)

/-- Opcode 0x83. -/
def group83 (n : BitVec 3) : Option GroupTail :=
  match n.toNat with
  | 0 => some (tailRm16Byte .addRm16Simm8)
  | 1 => some (tailRm16Byte .orRm16Simm8)
  | 2 => some (tailRm16Byte .adcRm16Simm8)
  | 3 => some (tailRm16Byte .sbbRm16Simm8)
  | 4 => some (tailRm16Byte .andRm16Simm8)
  | 5 => some (tailRm16Byte .subRm16Simm8)
  | 6 => some (tailRm16Byte .xorRm16Simm8)
  | _ => some (tailRm16Byte .cmpRm16Simm8)

/-- Opcode 0x8C. -/
def group8C (n : BitVec 3) : Option GroupTail :=
  match n.toNat with
  | 0 => some (tailRm16 .movRm16Es)
  | 1 => some (tailRm16 .movRm16Cs)
  | 2 => some (tailRm16 .movRm16Ss)
  | 3 => some (tailRm16 .movRm16Ds)
  | _ => none

/-- Opcode 0x8E. -/
def group8E (n : BitVec 3) : Option GroupTail :=
  match n.toNat with
  | 0 => some (tailRm16 .movEsRm16)
  | 2 => some (tailRm16 .movSsRm16)
  | 3 => some (tailRm16 .movDsRm16)
  | _ => none

/-- Opcode 0x8F. -/
def group8F (n : BitVec 3) : Option GroupTail :=
  match n.toNat with
  | 0 => some (tailRm16 .popRm16)
  | _ => none

/-- Opcode 0xD0. -/
def groupD0 (n : BitVec 3) : Option GroupTail :=
  match n.toNat with
  | 0 => some (tailRm8 .rolRm8One)
  | 1 => some (tailRm8 .rorRm8One)
  | 2 => some (tailRm8 .rclRm8One)
  | 3 => some (tailRm8 .rcrRm8One)
  | 4 => some (tailRm8 .shlRm8One)
  | 5 => some (tailRm8 .shrRm8One)
  | 7 => some (tailRm8 .sarRm8One)
  | _ => none

/-- Opcode 0xD1. -/
def groupD1 (n : BitVec 3) : Option GroupTail :=
  match n.toNat with
  | 0 => some (tailRm16 .rolRm16One)
  | 1 => some (tailRm16 .rorRm16One)
  | 2 => some (tailRm16 .rclRm16One)
  | 3 => some (tailRm16 .rcrRm16One)
  | 4 => some (tailRm16 .shlRm16One)
  | 5 => some (tailRm16 .shrRm16One)
  | 7 => some (tailRm16 .sarRm16One)
  | _ => none

/-- Opcode 0xD2. -/
def groupD2 (n : BitVec 3) : Option GroupTail :=
  match n.toNat with
  | 0 => some (tailRm8 .rolRm8Cl)
  | 1 => some (tailRm8 .rorRm8Cl)
  | 2 => some (tailRm8 .rclRm8Cl)
  | 3 => some (tailRm8 .rcrRm8Cl)
  | 4 => some (tailRm8 .shlRm8Cl)
  | 5 => some (tailRm8 .shrRm8Cl)
  | 7 => some (tailRm8 .sarRm8Cl)
  | _ => none

/-- Opcode 0xD3. -/
def groupD3 (n : BitVec 3) : Option GroupTail :=
  match n.toNat with
  | 0 => some (tailRm16 .rolRm16Cl)
  | 1 => some (tailRm16 .rorRm16Cl)
  | 2 => some (tailRm16 .rclRm16Cl)
  | 3 => some (tailRm16 .rcrRm16Cl)
  | 4 => some (tailRm16 .shlRm16Cl)
  | 5 => some (tailRm16 .shrRm16Cl)
  | 7 => some (tailRm16 .sarRm16Cl)
  | _ => none

/-- Opcode 0xF6. -/
def groupF6 (n : BitVec 3) : Option GroupTail :=
  match n.toNat with
  | 0 => some (tailRm8Byte .testRm8Imm8)
  | 2 => some (tailRm8 .notRm8)
  | 3 => some (tailRm8 .negRm8)
  | 4 => some (tailRm8 .mulRm8)
  | 5 => some (tailRm8 .imulRm8)
  | 6 => some (tailRm8 .divRm8)
  | 7 => some (tailRm8 .idivRm8)
  | _ => none

/-- Opcode 0xF7. -/
def groupF7 (n : BitVec 3) : Option GroupTail :=
  match n.toNat with
  | 0 => some (tailRm16Word .testRm16Imm16)
  | 2 => some (tailRm16 .notRm16)
  | 3 => some (tailRm16 .negRm16)
  | 4 => some (tailRm16 .mulRm16)
  | 5 => some (tailRm16 .imulRm16)
  | 6 => some (tailRm16 .divRm16)
  | 7 => some (tailRm16 .idivRm16)
  | _ => none

/-- Opcode 0xFE. -/
def groupFE (n : BitVec 3) : Option GroupTail :=
  match n.toNat with
  | 0 => some (tailRm8 .incRm8)
  | 1 => some (tailRm8 .decRm8)
  | _ => none

/-- Opcode 0xFF. -/
def groupFF (n : BitVec 3) : Option GroupTail :=
  match n.toNat with
  | 0 => some (tailRm16 .incRm16)
  | 1 => some (tailRm16 .decRm16)
  | 6 => some (tailRm16 .pushRm16)
  | _ => none

/-! ## The repeat prefixes (30_encoding.md R123) -/

/-- The opcode byte of a string instruction (30_encoding.md R101). -/
def StringOp.opcode : StringOp → Byte
  | .movsb => 0xA4
  | .movsw => 0xA5
  | .cmpsb => 0xA6
  | .cmpsw => 0xA7
  | .stosb => 0xAA
  | .stosw => 0xAB
  | .lodsb => 0xAC
  | .lodsw => 0xAD
  | .scasb => 0xAE
  | .scasw => 0xAF

/-- The string instruction an opcode byte stands for after 0xF3 (30_encoding.md R123). -/
def StringOp.ofOpcode (b : Byte) : Option StringOp :=
  match b.toNat with
  | 0xA4 => some .movsb
  | 0xA5 => some .movsw
  | 0xA6 => some .cmpsb
  | 0xA7 => some .cmpsw
  | 0xAA => some .stosb
  | 0xAB => some .stosw
  | 0xAC => some .lodsb
  | 0xAD => some .lodsw
  | 0xAE => some .scasb
  | 0xAF => some .scasw
  | _ => none

/-- The opcode byte of a compare or scan (30_encoding.md R101). -/
def CompareOp.opcode : CompareOp → Byte
  | .cmpsb => 0xA6
  | .cmpsw => 0xA7
  | .scasb => 0xAE
  | .scasw => 0xAF

/-- The compare or scan an opcode byte stands for after 0xF2 (30_encoding.md R123). -/
def CompareOp.ofOpcode (b : Byte) : Option CompareOp :=
  match b.toNat with
  | 0xA6 => some .cmpsb
  | 0xA7 => some .cmpsw
  | 0xAE => some .scasb
  | 0xAF => some .scasw
  | _ => none

/-- 0xF3 with the byte after it; every other pair is refused as a unit (30_encoding.md R121, R123). -/
def decodeRep : List Byte → Parsed Instr
  | b :: bs =>
    match StringOp.ofOpcode b with
    | some o => .ok (.rep o, bs)
    | none => .error (.refusedPair 0xF3 b)
  | [] => .error .truncated

/-- 0xF2 with the byte after it; every other pair is refused as a unit (30_encoding.md R121, R123). -/
def decodeRepne : List Byte → Parsed Instr
  | b :: bs =>
    match CompareOp.ofOpcode b with
    | some o => .ok (.repne o, bs)
    | none => .error (.refusedPair 0xF2 b)
  | [] => .error .truncated

/-! ## The opcode map (30_encoding.md R101, R120) -/

/-- Opcodes 0x00 to 0x0F. -/
def page0 (op : Byte) (bs : List Byte) : Parsed Instr :=
  match (loNibble op).toNat with
  | 0x0 => rm8Reg8 .addRm8R8 bs
  | 0x1 => rm16Reg16 .addRm16R16 bs
  | 0x2 => reg8Rm8 .addR8Rm8 bs
  | 0x3 => reg16Rm16 .addR16Rm16 bs
  | 0x4 => byteOperand .addAlImm8 bs
  | 0x5 => wordOperand .addAxImm16 bs
  | 0x6 => .ok (.pushEs, bs)
  | 0x7 => .ok (.popEs, bs)
  | 0x8 => rm8Reg8 .orRm8R8 bs
  | 0x9 => rm16Reg16 .orRm16R16 bs
  | 0xA => reg8Rm8 .orR8Rm8 bs
  | 0xB => reg16Rm16 .orR16Rm16 bs
  | 0xC => byteOperand .orAlImm8 bs
  | 0xD => wordOperand .orAxImm16 bs
  | 0xE => .ok (.pushCs, bs)
  | _ => .error (.refusedOpcode op)

/-- Opcodes 0x10 to 0x1F. -/
def page1 (op : Byte) (bs : List Byte) : Parsed Instr :=
  match (loNibble op).toNat with
  | 0x0 => rm8Reg8 .adcRm8R8 bs
  | 0x1 => rm16Reg16 .adcRm16R16 bs
  | 0x2 => reg8Rm8 .adcR8Rm8 bs
  | 0x3 => reg16Rm16 .adcR16Rm16 bs
  | 0x4 => byteOperand .adcAlImm8 bs
  | 0x5 => wordOperand .adcAxImm16 bs
  | 0x6 => .ok (.pushSs, bs)
  | 0x7 => .ok (.popSs, bs)
  | 0x8 => rm8Reg8 .sbbRm8R8 bs
  | 0x9 => rm16Reg16 .sbbRm16R16 bs
  | 0xA => reg8Rm8 .sbbR8Rm8 bs
  | 0xB => reg16Rm16 .sbbR16Rm16 bs
  | 0xC => byteOperand .sbbAlImm8 bs
  | 0xD => wordOperand .sbbAxImm16 bs
  | 0xE => .ok (.pushDs, bs)
  | _ => .ok (.popDs, bs)

/-- Opcodes 0x20 to 0x2F. -/
def page2 (op : Byte) (bs : List Byte) : Parsed Instr :=
  match (loNibble op).toNat with
  | 0x0 => rm8Reg8 .andRm8R8 bs
  | 0x1 => rm16Reg16 .andRm16R16 bs
  | 0x2 => reg8Rm8 .andR8Rm8 bs
  | 0x3 => reg16Rm16 .andR16Rm16 bs
  | 0x4 => byteOperand .andAlImm8 bs
  | 0x5 => wordOperand .andAxImm16 bs
  | 0x8 => rm8Reg8 .subRm8R8 bs
  | 0x9 => rm16Reg16 .subRm16R16 bs
  | 0xA => reg8Rm8 .subR8Rm8 bs
  | 0xB => reg16Rm16 .subR16Rm16 bs
  | 0xC => byteOperand .subAlImm8 bs
  | 0xD => wordOperand .subAxImm16 bs
  | _ => .error (.refusedOpcode op)

/-- Opcodes 0x30 to 0x3F. -/
def page3 (op : Byte) (bs : List Byte) : Parsed Instr :=
  match (loNibble op).toNat with
  | 0x0 => rm8Reg8 .xorRm8R8 bs
  | 0x1 => rm16Reg16 .xorRm16R16 bs
  | 0x2 => reg8Rm8 .xorR8Rm8 bs
  | 0x3 => reg16Rm16 .xorR16Rm16 bs
  | 0x4 => byteOperand .xorAlImm8 bs
  | 0x5 => wordOperand .xorAxImm16 bs
  | 0x8 => rm8Reg8 .cmpRm8R8 bs
  | 0x9 => rm16Reg16 .cmpRm16R16 bs
  | 0xA => reg8Rm8 .cmpR8Rm8 bs
  | 0xB => reg16Rm16 .cmpR16Rm16 bs
  | 0xC => byteOperand .cmpAlImm8 bs
  | 0xD => wordOperand .cmpAxImm16 bs
  | _ => .error (.refusedOpcode op)

/-- Opcodes 0x40 to 0x4F. -/
def page4 (op : Byte) (bs : List Byte) : Parsed Instr :=
  if loNibble op < 8 then .ok (.incR16 (Reg16.ofBits (low3 op)), bs)
  else .ok (.decR16 (Reg16.ofBits (low3 op)), bs)

/-- Opcodes 0x50 to 0x5F. -/
def page5 (op : Byte) (bs : List Byte) : Parsed Instr :=
  if loNibble op < 8 then .ok (.pushR16 (Reg16.ofBits (low3 op)), bs)
  else .ok (.popR16 (Reg16.ofBits (low3 op)), bs)

/-- Opcodes 0x60 to 0x6F: all refused. -/
def page6 (op : Byte) (_ : List Byte) : Parsed Instr := .error (.refusedOpcode op)

/-- Opcodes 0x70 to 0x7F. -/
def page7 (op : Byte) (bs : List Byte) : Parsed Instr :=
  match (loNibble op).toNat with
  | 0x0 => byteOperand .joRel8 bs
  | 0x1 => byteOperand .jnoRel8 bs
  | 0x2 => byteOperand .jbRel8 bs
  | 0x3 => byteOperand .jnbRel8 bs
  | 0x4 => byteOperand .jeRel8 bs
  | 0x5 => byteOperand .jneRel8 bs
  | 0x6 => byteOperand .jbeRel8 bs
  | 0x7 => byteOperand .jaRel8 bs
  | 0x8 => byteOperand .jsRel8 bs
  | 0x9 => byteOperand .jnsRel8 bs
  | 0xA => byteOperand .jpRel8 bs
  | 0xB => byteOperand .jnpRel8 bs
  | 0xC => byteOperand .jlRel8 bs
  | 0xD => byteOperand .jgeRel8 bs
  | 0xE => byteOperand .jleRel8 bs
  | _ => byteOperand .jgRel8 bs

/-- Opcodes 0x80 to 0x8F. -/
def page8 (op : Byte) (bs : List Byte) : Parsed Instr :=
  match (loNibble op).toNat with
  | 0x0 => group op group80 bs
  | 0x1 => group op group81 bs
  | 0x3 => group op group83 bs
  | 0x4 => rm8Reg8 .testRm8R8 bs
  | 0x5 => rm16Reg16 .testRm16R16 bs
  | 0x8 => rm8Reg8 .movRm8R8 bs
  | 0x9 => rm16Reg16 .movRm16R16 bs
  | 0xA => reg8Rm8 .movR8Rm8 bs
  | 0xB => reg16Rm16 .movR16Rm16 bs
  | 0xC => group op group8C bs
  | 0xE => group op group8E bs
  | 0xF => group op group8F bs
  | _ => .error (.refusedOpcode op)

/-- Opcodes 0x90 to 0x9F. -/
def page9 (op : Byte) (bs : List Byte) : Parsed Instr :=
  match (loNibble op).toNat with
  | 0x0 => .ok (.nop, bs)
  | 0x8 => .ok (.cbw, bs)
  | 0x9 => .ok (.cwd, bs)
  | 0xA => farOperand .callFar bs
  | 0xE => .ok (.sahf, bs)
  | 0xF => .ok (.lahf, bs)
  | _ => .error (.refusedOpcode op)

/-- Opcodes 0xA0 to 0xAF. -/
def pageA (op : Byte) (bs : List Byte) : Parsed Instr :=
  match (loNibble op).toNat with
  | 0x0 => wordOperand .movAlMoffs bs
  | 0x1 => wordOperand .movAxMoffs bs
  | 0x2 => wordOperand .movMoffsAl bs
  | 0x3 => wordOperand .movMoffsAx bs
  | 0x4 => .ok (.movsb, bs)
  | 0x5 => .ok (.movsw, bs)
  | 0x6 => .ok (.cmpsb, bs)
  | 0x7 => .ok (.cmpsw, bs)
  | 0x8 => byteOperand .testAlImm8 bs
  | 0x9 => wordOperand .testAxImm16 bs
  | 0xA => .ok (.stosb, bs)
  | 0xB => .ok (.stosw, bs)
  | 0xC => .ok (.lodsb, bs)
  | 0xD => .ok (.lodsw, bs)
  | 0xE => .ok (.scasb, bs)
  | _ => .ok (.scasw, bs)

/-- Opcodes 0xB0 to 0xBF. -/
def pageB (op : Byte) (bs : List Byte) : Parsed Instr :=
  if loNibble op < 8 then byteOperand (.movR8Imm8 (Reg8.ofBits (low3 op))) bs
  else wordOperand (.movR16Imm16 (Reg16.ofBits (low3 op))) bs

/-- Opcodes 0xC0 to 0xCF. -/
def pageC (op : Byte) (bs : List Byte) : Parsed Instr :=
  match (loNibble op).toNat with
  | 0x2 => wordOperand .retImm16 bs
  | 0x3 => .ok (.ret, bs)
  | 0xA => wordOperand .retfImm16 bs
  | 0xB => .ok (.retf, bs)
  | 0xD => byteOperand .intImm8 bs
  | 0xF => .ok (.iret, bs)
  | _ => .error (.refusedOpcode op)

/-- Opcodes 0xD0 to 0xDF. -/
def pageD (op : Byte) (bs : List Byte) : Parsed Instr :=
  match (loNibble op).toNat with
  | 0x0 => group op groupD0 bs
  | 0x1 => group op groupD1 bs
  | 0x2 => group op groupD2 bs
  | 0x3 => group op groupD3 bs
  | _ => .error (.refusedOpcode op)

/-- Opcodes 0xE0 to 0xEF. -/
def pageE (op : Byte) (bs : List Byte) : Parsed Instr :=
  match (loNibble op).toNat with
  | 0x0 => byteOperand .loopneRel8 bs
  | 0x1 => byteOperand .loopeRel8 bs
  | 0x2 => byteOperand .loopRel8 bs
  | 0x8 => wordOperand .callRel16 bs
  | 0x9 => wordOperand .jmpRel16 bs
  | 0xA => farOperand .jmpFar bs
  | 0xB => byteOperand .jmpRel8 bs
  | _ => .error (.refusedOpcode op)

/-- Opcodes 0xF0 to 0xFF. -/
def pageF (op : Byte) (bs : List Byte) : Parsed Instr :=
  match (loNibble op).toNat with
  | 0x2 => decodeRepne bs
  | 0x3 => decodeRep bs
  | 0x4 => .ok (.hlt, bs)
  | 0x6 => group op groupF6 bs
  | 0x7 => group op groupF7 bs
  | 0x8 => .ok (.clc, bs)
  | 0x9 => .ok (.stc, bs)
  | 0xA => .ok (.cli, bs)
  | 0xB => .ok (.sti, bs)
  | 0xC => .ok (.cld, bs)
  | 0xD => .ok (.std, bs)
  | 0xE => group op groupFE bs
  | 0xF => group op groupFF bs
  | _ => .error (.refusedOpcode op)

/-- The opcode byte and what follows it. -/
def decodeOpcode (op : Byte) (bs : List Byte) : Parsed Instr :=
  match (hiNibble op).toNat with
  | 0x0 => page0 op bs
  | 0x1 => page1 op bs
  | 0x2 => page2 op bs
  | 0x3 => page3 op bs
  | 0x4 => page4 op bs
  | 0x5 => page5 op bs
  | 0x6 => page6 op bs
  | 0x7 => page7 op bs
  | 0x8 => page8 op bs
  | 0x9 => page9 op bs
  | 0xA => pageA op bs
  | 0xB => pageB op bs
  | 0xC => pageC op bs
  | 0xD => pageD op bs
  | 0xE => pageE op bs
  | _ => pageF op bs

/-- Decoding: total on every list of bytes, an instruction with the bytes after it, or a refusal by name (40_execution_cycle.md R140 steps 2 and 3). It is a function of the bytes alone: no mode changes it (30_encoding.md R98). -/
def decode : List Byte → Parsed Instr
  | op :: bs => decodeOpcode op bs
  | [] => .error .truncated

/-! ## Encoding, from the same tables -/

/-- Two bytes, low byte first (30_encoding.md R95). -/
def wordBytes (v : Word) : List Byte := [loByte v, hiByte v]

/-- The ModR/M byte with the given reg field, and the displacement (30_encoding.md R92 to R94). -/
def rmBytes (reg : BitVec 3) : RegMem (BitVec 3) → List Byte
  | .reg n => [modRmByte 3 reg n]
  | .mem (.noDisp b) => [modRmByte 0 reg b.bits]
  | .mem (.disp8 b d) => [modRmByte 1 reg b.bits, d]
  | .mem (.disp16 b d) => modRmByte 2 reg b.bits :: wordBytes d
  | .mem (.direct d) => modRmByte 0 reg 6 :: wordBytes d

/-- ModR/M and displacement of a byte operand. -/
def rm8Bytes (reg : BitVec 3) (o : Rm8) : List Byte := rmBytes reg (o.map Reg8.bits)

/-- ModR/M and displacement of a word operand. -/
def rm16Bytes (reg : BitVec 3) (o : Rm16) : List Byte := rmBytes reg (o.map Reg16.bits)

/-- A one-byte opcode with a register number in bits 2:0 (30_encoding.md R91). -/
def opWithReg (base : Byte) (reg : BitVec 3) : Byte := base + reg.setWidth 8

/-- The bytes of an instruction, lowest address first (30_encoding.md R90). -/
def encode : Instr → List Byte
  | .addRm8R8 d s => 0x00 :: rm8Bytes s.bits d
  | .addRm16R16 d s => 0x01 :: rm16Bytes s.bits d
  | .addR8Rm8 d s => 0x02 :: rm8Bytes d.bits s
  | .addR16Rm16 d s => 0x03 :: rm16Bytes d.bits s
  | .addAlImm8 v => [0x04, v]
  | .addAxImm16 v => 0x05 :: wordBytes v
  | .addRm8Imm8 d v => 0x80 :: (rm8Bytes 0 d ++ [v])
  | .addRm16Imm16 d v => 0x81 :: (rm16Bytes 0 d ++ wordBytes v)
  | .addRm16Simm8 d v => 0x83 :: (rm16Bytes 0 d ++ [v])
  | .orRm8R8 d s => 0x08 :: rm8Bytes s.bits d
  | .orRm16R16 d s => 0x09 :: rm16Bytes s.bits d
  | .orR8Rm8 d s => 0x0A :: rm8Bytes d.bits s
  | .orR16Rm16 d s => 0x0B :: rm16Bytes d.bits s
  | .orAlImm8 v => [0x0C, v]
  | .orAxImm16 v => 0x0D :: wordBytes v
  | .orRm8Imm8 d v => 0x80 :: (rm8Bytes 1 d ++ [v])
  | .orRm16Imm16 d v => 0x81 :: (rm16Bytes 1 d ++ wordBytes v)
  | .orRm16Simm8 d v => 0x83 :: (rm16Bytes 1 d ++ [v])
  | .adcRm8R8 d s => 0x10 :: rm8Bytes s.bits d
  | .adcRm16R16 d s => 0x11 :: rm16Bytes s.bits d
  | .adcR8Rm8 d s => 0x12 :: rm8Bytes d.bits s
  | .adcR16Rm16 d s => 0x13 :: rm16Bytes d.bits s
  | .adcAlImm8 v => [0x14, v]
  | .adcAxImm16 v => 0x15 :: wordBytes v
  | .adcRm8Imm8 d v => 0x80 :: (rm8Bytes 2 d ++ [v])
  | .adcRm16Imm16 d v => 0x81 :: (rm16Bytes 2 d ++ wordBytes v)
  | .adcRm16Simm8 d v => 0x83 :: (rm16Bytes 2 d ++ [v])
  | .sbbRm8R8 d s => 0x18 :: rm8Bytes s.bits d
  | .sbbRm16R16 d s => 0x19 :: rm16Bytes s.bits d
  | .sbbR8Rm8 d s => 0x1A :: rm8Bytes d.bits s
  | .sbbR16Rm16 d s => 0x1B :: rm16Bytes d.bits s
  | .sbbAlImm8 v => [0x1C, v]
  | .sbbAxImm16 v => 0x1D :: wordBytes v
  | .sbbRm8Imm8 d v => 0x80 :: (rm8Bytes 3 d ++ [v])
  | .sbbRm16Imm16 d v => 0x81 :: (rm16Bytes 3 d ++ wordBytes v)
  | .sbbRm16Simm8 d v => 0x83 :: (rm16Bytes 3 d ++ [v])
  | .andRm8R8 d s => 0x20 :: rm8Bytes s.bits d
  | .andRm16R16 d s => 0x21 :: rm16Bytes s.bits d
  | .andR8Rm8 d s => 0x22 :: rm8Bytes d.bits s
  | .andR16Rm16 d s => 0x23 :: rm16Bytes d.bits s
  | .andAlImm8 v => [0x24, v]
  | .andAxImm16 v => 0x25 :: wordBytes v
  | .andRm8Imm8 d v => 0x80 :: (rm8Bytes 4 d ++ [v])
  | .andRm16Imm16 d v => 0x81 :: (rm16Bytes 4 d ++ wordBytes v)
  | .andRm16Simm8 d v => 0x83 :: (rm16Bytes 4 d ++ [v])
  | .subRm8R8 d s => 0x28 :: rm8Bytes s.bits d
  | .subRm16R16 d s => 0x29 :: rm16Bytes s.bits d
  | .subR8Rm8 d s => 0x2A :: rm8Bytes d.bits s
  | .subR16Rm16 d s => 0x2B :: rm16Bytes d.bits s
  | .subAlImm8 v => [0x2C, v]
  | .subAxImm16 v => 0x2D :: wordBytes v
  | .subRm8Imm8 d v => 0x80 :: (rm8Bytes 5 d ++ [v])
  | .subRm16Imm16 d v => 0x81 :: (rm16Bytes 5 d ++ wordBytes v)
  | .subRm16Simm8 d v => 0x83 :: (rm16Bytes 5 d ++ [v])
  | .xorRm8R8 d s => 0x30 :: rm8Bytes s.bits d
  | .xorRm16R16 d s => 0x31 :: rm16Bytes s.bits d
  | .xorR8Rm8 d s => 0x32 :: rm8Bytes d.bits s
  | .xorR16Rm16 d s => 0x33 :: rm16Bytes d.bits s
  | .xorAlImm8 v => [0x34, v]
  | .xorAxImm16 v => 0x35 :: wordBytes v
  | .xorRm8Imm8 d v => 0x80 :: (rm8Bytes 6 d ++ [v])
  | .xorRm16Imm16 d v => 0x81 :: (rm16Bytes 6 d ++ wordBytes v)
  | .xorRm16Simm8 d v => 0x83 :: (rm16Bytes 6 d ++ [v])
  | .cmpRm8R8 d s => 0x38 :: rm8Bytes s.bits d
  | .cmpRm16R16 d s => 0x39 :: rm16Bytes s.bits d
  | .cmpR8Rm8 d s => 0x3A :: rm8Bytes d.bits s
  | .cmpR16Rm16 d s => 0x3B :: rm16Bytes d.bits s
  | .cmpAlImm8 v => [0x3C, v]
  | .cmpAxImm16 v => 0x3D :: wordBytes v
  | .cmpRm8Imm8 d v => 0x80 :: (rm8Bytes 7 d ++ [v])
  | .cmpRm16Imm16 d v => 0x81 :: (rm16Bytes 7 d ++ wordBytes v)
  | .cmpRm16Simm8 d v => 0x83 :: (rm16Bytes 7 d ++ [v])
  | .pushEs => [0x06]
  | .pushCs => [0x0E]
  | .pushSs => [0x16]
  | .pushDs => [0x1E]
  | .popEs => [0x07]
  | .popSs => [0x17]
  | .popDs => [0x1F]
  | .incR16 r => [opWithReg 0x40 r.bits]
  | .decR16 r => [opWithReg 0x48 r.bits]
  | .pushR16 r => [opWithReg 0x50 r.bits]
  | .popR16 r => [opWithReg 0x58 r.bits]
  | .joRel8 disp => [0x70, disp]
  | .jnoRel8 disp => [0x71, disp]
  | .jbRel8 disp => [0x72, disp]
  | .jnbRel8 disp => [0x73, disp]
  | .jeRel8 disp => [0x74, disp]
  | .jneRel8 disp => [0x75, disp]
  | .jbeRel8 disp => [0x76, disp]
  | .jaRel8 disp => [0x77, disp]
  | .jsRel8 disp => [0x78, disp]
  | .jnsRel8 disp => [0x79, disp]
  | .jpRel8 disp => [0x7A, disp]
  | .jnpRel8 disp => [0x7B, disp]
  | .jlRel8 disp => [0x7C, disp]
  | .jgeRel8 disp => [0x7D, disp]
  | .jleRel8 disp => [0x7E, disp]
  | .jgRel8 disp => [0x7F, disp]
  | .testRm8R8 d s => 0x84 :: rm8Bytes s.bits d
  | .testRm16R16 d s => 0x85 :: rm16Bytes s.bits d
  | .movRm8R8 d s => 0x88 :: rm8Bytes s.bits d
  | .movRm16R16 d s => 0x89 :: rm16Bytes s.bits d
  | .movR8Rm8 d s => 0x8A :: rm8Bytes d.bits s
  | .movR16Rm16 d s => 0x8B :: rm16Bytes d.bits s
  | .movRm16Es r => 0x8C :: rm16Bytes 0 r
  | .movRm16Cs r => 0x8C :: rm16Bytes 1 r
  | .movRm16Ss r => 0x8C :: rm16Bytes 2 r
  | .movRm16Ds r => 0x8C :: rm16Bytes 3 r
  | .movEsRm16 r => 0x8E :: rm16Bytes 0 r
  | .movSsRm16 r => 0x8E :: rm16Bytes 2 r
  | .movDsRm16 r => 0x8E :: rm16Bytes 3 r
  | .popRm16 r => 0x8F :: rm16Bytes 0 r
  | .nop => [0x90]
  | .cbw => [0x98]
  | .cwd => [0x99]
  | .callFar off seg => 0x9A :: (wordBytes off ++ wordBytes seg)
  | .sahf => [0x9E]
  | .lahf => [0x9F]
  | .movAlMoffs off => 0xA0 :: wordBytes off
  | .movAxMoffs off => 0xA1 :: wordBytes off
  | .movMoffsAl off => 0xA2 :: wordBytes off
  | .movMoffsAx off => 0xA3 :: wordBytes off
  | .movsb => [0xA4]
  | .movsw => [0xA5]
  | .cmpsb => [0xA6]
  | .cmpsw => [0xA7]
  | .testAlImm8 v => [0xA8, v]
  | .testAxImm16 v => 0xA9 :: wordBytes v
  | .stosb => [0xAA]
  | .stosw => [0xAB]
  | .lodsb => [0xAC]
  | .lodsw => [0xAD]
  | .scasb => [0xAE]
  | .scasw => [0xAF]
  | .movR8Imm8 d v => [opWithReg 0xB0 d.bits, v]
  | .movR16Imm16 d v => opWithReg 0xB8 d.bits :: wordBytes v
  | .retImm16 v => 0xC2 :: wordBytes v
  | .ret => [0xC3]
  | .retfImm16 v => 0xCA :: wordBytes v
  | .retf => [0xCB]
  | .intImm8 v => [0xCD, v]
  | .iret => [0xCF]
  | .rolRm8One r => 0xD0 :: rm8Bytes 0 r
  | .rorRm8One r => 0xD0 :: rm8Bytes 1 r
  | .rclRm8One r => 0xD0 :: rm8Bytes 2 r
  | .rcrRm8One r => 0xD0 :: rm8Bytes 3 r
  | .shlRm8One r => 0xD0 :: rm8Bytes 4 r
  | .shrRm8One r => 0xD0 :: rm8Bytes 5 r
  | .sarRm8One r => 0xD0 :: rm8Bytes 7 r
  | .rolRm16One r => 0xD1 :: rm16Bytes 0 r
  | .rorRm16One r => 0xD1 :: rm16Bytes 1 r
  | .rclRm16One r => 0xD1 :: rm16Bytes 2 r
  | .rcrRm16One r => 0xD1 :: rm16Bytes 3 r
  | .shlRm16One r => 0xD1 :: rm16Bytes 4 r
  | .shrRm16One r => 0xD1 :: rm16Bytes 5 r
  | .sarRm16One r => 0xD1 :: rm16Bytes 7 r
  | .rolRm8Cl r => 0xD2 :: rm8Bytes 0 r
  | .rorRm8Cl r => 0xD2 :: rm8Bytes 1 r
  | .rclRm8Cl r => 0xD2 :: rm8Bytes 2 r
  | .rcrRm8Cl r => 0xD2 :: rm8Bytes 3 r
  | .shlRm8Cl r => 0xD2 :: rm8Bytes 4 r
  | .shrRm8Cl r => 0xD2 :: rm8Bytes 5 r
  | .sarRm8Cl r => 0xD2 :: rm8Bytes 7 r
  | .rolRm16Cl r => 0xD3 :: rm16Bytes 0 r
  | .rorRm16Cl r => 0xD3 :: rm16Bytes 1 r
  | .rclRm16Cl r => 0xD3 :: rm16Bytes 2 r
  | .rcrRm16Cl r => 0xD3 :: rm16Bytes 3 r
  | .shlRm16Cl r => 0xD3 :: rm16Bytes 4 r
  | .shrRm16Cl r => 0xD3 :: rm16Bytes 5 r
  | .sarRm16Cl r => 0xD3 :: rm16Bytes 7 r
  | .loopneRel8 disp => [0xE0, disp]
  | .loopeRel8 disp => [0xE1, disp]
  | .loopRel8 disp => [0xE2, disp]
  | .callRel16 disp => 0xE8 :: wordBytes disp
  | .jmpRel16 disp => 0xE9 :: wordBytes disp
  | .jmpFar off seg => 0xEA :: (wordBytes off ++ wordBytes seg)
  | .jmpRel8 disp => [0xEB, disp]
  | .repne op => [0xF2, op.opcode]
  | .rep op => [0xF3, op.opcode]
  | .hlt => [0xF4]
  | .testRm8Imm8 d v => 0xF6 :: (rm8Bytes 0 d ++ [v])
  | .notRm8 r => 0xF6 :: rm8Bytes 2 r
  | .negRm8 r => 0xF6 :: rm8Bytes 3 r
  | .mulRm8 r => 0xF6 :: rm8Bytes 4 r
  | .imulRm8 r => 0xF6 :: rm8Bytes 5 r
  | .divRm8 r => 0xF6 :: rm8Bytes 6 r
  | .idivRm8 r => 0xF6 :: rm8Bytes 7 r
  | .testRm16Imm16 d v => 0xF7 :: (rm16Bytes 0 d ++ wordBytes v)
  | .notRm16 r => 0xF7 :: rm16Bytes 2 r
  | .negRm16 r => 0xF7 :: rm16Bytes 3 r
  | .mulRm16 r => 0xF7 :: rm16Bytes 4 r
  | .imulRm16 r => 0xF7 :: rm16Bytes 5 r
  | .divRm16 r => 0xF7 :: rm16Bytes 6 r
  | .idivRm16 r => 0xF7 :: rm16Bytes 7 r
  | .clc => [0xF8]
  | .stc => [0xF9]
  | .cli => [0xFA]
  | .sti => [0xFB]
  | .cld => [0xFC]
  | .std => [0xFD]
  | .incRm8 r => 0xFE :: rm8Bytes 0 r
  | .decRm8 r => 0xFE :: rm8Bytes 1 r
  | .incRm16 r => 0xFF :: rm16Bytes 0 r
  | .decRm16 r => 0xFF :: rm16Bytes 1 r
  | .pushRm16 r => 0xFF :: rm16Bytes 6 r

/-! ## The table's numbering (30_encoding.md R99) -/

/-- Byte `i` of the instruction whose bits the number `w` gives. spec/opcode_table.json numbers `(byte0 << 8) | byte1`, so byte 0 is bits 15:8 and byte 1 bits 7:0 (30_encoding.md R99); a later byte counts on, byte `i` being bits `8i+7:8i` (log 12). A number of at most 8 bits is byte 0 alone. -/
def tableByte (nbits w i : Nat) : Byte :=
  if nbits ≤ 8 then (if i = 0 then BitVec.ofNat 8 w else 0)
  else match i with
    | 0 => BitVec.ofNat 8 (w >>> 8)
    | 1 => BitVec.ofNat 8 w
    | _ => BitVec.ofNat 8 (w >>> (8 * i))

/-- The six bytes, enough for every instruction, whose first `nbits` bits are `w` and the rest 0. -/
def tableBytes (nbits w : Nat) : List Byte :=
  (List.range Config.maxInstrBytes).map (tableByte nbits (w % 2 ^ nbits))

/-- The instruction the decoder reads from the bits `w`, numbered as spec/opcode_table.json numbers them (30_encoding.md R99; log 12). -/
def decodeTableWord (nbits w : Nat) : Option Instr :=
  match decode (tableBytes nbits w) with
  | .ok (i, _) => some i
  | .error _ => none

end Sys2Proof
end

