-- ==== Sys2Proof/Machine/State.lean ====
section
/-! DEFINITION. The state of the core as plain data (10_state.md R20 to R42), the ways a step can stop, and the state after reset (10_state.md R40). -/

namespace Sys2Proof.Machine

/-- The fourteen registers by name: `reg_read(id)` and `reg_write(id, v)` take one of these (10_state.md R20; 70_reset_and_hazards.md R470). -/
inductive RegId where
  | ax | bx | cx | dx | sp | bp | si | di | cs | ds | es | ss | ip | flags
  deriving DecidableEq, Repr

/-- The register file: exactly the fourteen named 16-bit registers (10_state.md R20). The 8-bit views are no storage (R21). -/
structure RegFile where
  ax : Word
  bx : Word
  cx : Word
  dx : Word
  sp : Word
  bp : Word
  si : Word
  di : Word
  cs : Word
  ds : Word
  es : Word
  ss : Word
  ip : Word
  flags : Word
  deriving DecidableEq, Repr

/-- Memory as a list of (address, byte), addresses strictly rising and below 2^20, no byte equal to what an unlisted address reads as (log 15). -/
abbrev Memory := List Host.Cell

/-- `run_state` (10_state.md R35). -/
inductive RunState where
  | idle | running | paused | halted | faulted
  deriving DecidableEq, Repr

/-- The fault kinds with their payload (60_exceptions.md R420). -/
inductive FaultKind where
  /-- Decode of a refused encoding (R421). -/
  | invalidOpcode
  /-- DIV or IDIV (R422). -/
  | divideError
  /-- `INT n` with no handler, with AH at the time (R424). -/
  | unhandledInterrupt (n ah : Byte)
  /-- INT 21h when the host refuses a byte (R425). -/
  | ioError
  deriving DecidableEq, Repr

/-- The size of an access: 1 or 2 bytes (20_memory.md R62 to R65). -/
inductive AccessSize where
  | byte | word
  deriving DecidableEq, Repr

/-- An observer event (10_state.md R39; 60_exceptions.md R440). -/
inductive Event where
  | execute (phys : PAddr)
  | read (phys : PAddr) (size : AccessSize)
  | write (phys : PAddr) (size : AccessSize) (value : Word)
  deriving DecidableEq, Repr

/-- What `HOST_OUT` answers for one byte (00_scope.md R8). -/
inductive OutAnswer where
  | ok | ioError
  deriving DecidableEq, Repr

/-- One thing a host handler other than INT 21h does through the interface of the register file and memory (70_reset_and_hazards.md R470). -/
inductive HandlerAction where
  | writeReg (r : RegId) (v : Word)
  | readMem (a : PAddr) (size : AccessSize)
  | writeByte (a : PAddr) (v : Byte)
  | writeWord (a : PAddr) (v : Word)
  deriving DecidableEq, Repr

/-- What one call of such a handler does: its actions in order, and whether it halts the core (48_control_transfer.md R378 "unless the handler halts"). It is an argument of the model (93_implementation_defined.md U12; log 5). -/
structure HandlerEffect where
  actions : List HandlerAction
  halts : Bool
  deriving DecidableEq, Repr

/-- The state of the core. The first nine fields are the spec's; the last three are the model's own and hold what the host brings (10_state.md R41; log 4, 5, 6). -/
structure State where
  /-- The register file (R20). -/
  regs : RegFile
  /-- The 2^20 bytes (R33). -/
  mem : Memory
  /-- `run_state` (R35). -/
  runState : RunState
  /-- `BREAKPOINTS` (R36), a set, listed in rising order (log 11). -/
  breakpoints : List PAddr
  /-- `bp_resume` (R36). -/
  bpResume : Option PAddr
  /-- `fault_record` (R37). -/
  faultRecord : Option FaultKind
  /-- `host_out` (R38), oldest byte first. -/
  hostOut : List Byte
  /-- `exit_code` (R38). -/
  exitCode : Option Byte
  /-- `trace` (R39), oldest event first. -/
  trace : List Event
  /-- The host's standing parameters (R41). -/
  params : Config.HostParams
  /-- The answers `HOST_OUT` gives to the coming bytes; once they are used up it answers `ok` (decision D42). -/
  outAnswers : List OutAnswer
  /-- What the coming calls of host handlers other than INT 21h do (U12). -/
  handlerEffects : List HandlerEffect
  deriving DecidableEq, Repr

/-- Why a step has no next state although the spec defines the instruction. -/
inductive Fault where
  /-- Raised by INT 21h with AH = 09h when no byte of the 64 KiB reached through DS is 0x24 and the host refuses none: "the step never returns", a dead end (60_exceptions.md R432, U11; log 7). Safe. -/
  | outputStringNeverEnds
  deriving DecidableEq, Repr

/-- Why the model gives a step no meaning. -/
inductive Refusal where
  /-- Raised by `exec` for an instruction not modelled yet; none is left. Safe. -/
  | notModelled (mnemonic : String)
  /-- Raised by `step` when it is called while a call is in progress: "refuse: the model gives the host no move inside a step" (U21; log 3). Safe. -/
  | callInProgress
  /-- Raised by `INT n`, n ≠ 0x21, when the host has a handler for n and its effect is not given: the model "must refuse to prove anything across" it (U12; log 5). Safe. -/
  | handlerEffectNotGiven (n : Byte)
  deriving DecidableEq, Repr

/-- The registers after reset (10_state.md R40). -/
def RegFile.reset : RegFile :=
  { ax := 0, bx := 0, cx := 0, dx := 0, sp := Config.resetSp, bp := 0, si := 0, di := 0
    cs := Config.resetCs, ds := Config.resetDs, es := 0, ss := Config.resetSs, ip := 0, flags := 0 }

/-- The state at the creation of the core, which is the reset state (70_reset_and_hazards.md R460, 10_state.md R40). `hostOut` and `trace` are empty because nothing has been sent or observed yet (DEDUCED, log 10). The last three fields are the spec's defaults of its parameters (DESIGN CHOICE, log 4, 5, 6). -/
def State.reset : State :=
  { regs := RegFile.reset
    mem := []
    runState := .idle
    breakpoints := []
    bpResume := none
    faultRecord := none
    hostOut := []
    exitCode := none
    trace := []
    params := Config.HostParams.default
    outAnswers := []
    handlerEffects := [] }

end Sys2Proof.Machine
end

