-- ==== Sys2Proof/Machine/Ops.lean ====
section
/-! DEFINITION. The named operations over registers, memory, the stack and the trace, and taking a fault (10_state.md R20 to R32; 20_memory.md R60 to R74; 60_exceptions.md R420 to R435). -/

namespace Sys2Proof.Machine

/-! ## Registers (10_state.md R20 to R24, R31) -/

/-- The word a register holds. -/
def RegFile.get (f : RegFile) : RegId → Word
  | .ax => f.ax | .bx => f.bx | .cx => f.cx | .dx => f.dx
  | .sp => f.sp | .bp => f.bp | .si => f.si | .di => f.di
  | .cs => f.cs | .ds => f.ds | .es => f.es | .ss => f.ss
  | .ip => f.ip | .flags => f.flags

/-- The register file with one register holding `v`. -/
def RegFile.put (f : RegFile) (r : RegId) (v : Word) : RegFile :=
  match r with
  | .ax => { f with ax := v } | .bx => { f with bx := v }
  | .cx => { f with cx := v } | .dx => { f with dx := v }
  | .sp => { f with sp := v } | .bp => { f with bp := v }
  | .si => { f with si := v } | .di => { f with di := v }
  | .cs => { f with cs := v } | .ds => { f with ds := v }
  | .es => { f with es := v } | .ss => { f with ss := v }
  | .ip => { f with ip := v } | .flags => { f with flags := v }

/-- What a register stores of a word written to it: all of it, but for FLAGS, whose bits 1, 3, 5 and 12 to 15 are hardwired to 0 (R24, R29, R42). -/
def storedWord : RegId → Word → Word
  | .flags, v => v &&& Config.flagsMask
  | .ax, v | .bx, v | .cx, v | .dx, v | .sp, v | .bp, v | .si, v | .di, v
  | .cs, v | .ds, v | .es, v | .ss, v | .ip, v => v

/-- `reg_read(id)`. -/
def State.reg (s : State) (r : RegId) : Word := s.regs.get r

/-- `reg_write(id, v)`: the one operation that writes a register (R24). -/
def State.setReg (s : State) (r : RegId) (v : Word) : State :=
  { s with regs := s.regs.put r (storedWord r v) }

/-- A general register among the fourteen. -/
def Reg16.id : Reg16 → RegId
  | .ax => .ax | .cx => .cx | .dx => .dx | .bx => .bx
  | .sp => .sp | .bp => .bp | .si => .si | .di => .di

/-- A segment register among the fourteen. -/
def Sreg.id : Sreg → RegId
  | .es => .es | .cs => .cs | .ss => .ss | .ds => .ds

/-- The 16-bit register an 8-bit view is half of (R21). -/
def Reg8.parent : Reg8 → RegId
  | .al | .ah => .ax
  | .bl | .bh => .bx
  | .cl | .ch => .cx
  | .dl | .dh => .dx

/-- Whether an 8-bit view is bits 15:8 (R21). -/
def Reg8.isHigh : Reg8 → Bool
  | .al | .bl | .cl | .dl => false
  | .ah | .bh | .ch | .dh => true

/-- Reading an 8-bit view (R21). -/
def State.reg8 (s : State) (r : Reg8) : Byte :=
  if Reg8.isHigh r then hiByte (s.reg (Reg8.parent r)) else loByte (s.reg (Reg8.parent r))

/-- Writing an 8-bit view leaves the other half (R21). -/
def State.setReg8 (s : State) (r : Reg8) (v : Byte) : State :=
  let old := s.reg (Reg8.parent r)
  s.setReg (Reg8.parent r) (if Reg8.isHigh r then leWord (loByte old) v else leWord v (hiByte old))

/-! ## Memory (20_memory.md R60 to R69) -/

/-- The byte at an address: the first entry listed for it, or what an unlisted address reads as. -/
def Memory.read : Memory → Nat → Byte
  | [], _ => Config.unlistedByte
  | (a, b) :: m, x => if a = x then b else Memory.read m x

/-- The list without an address. -/
def Memory.erase : Memory → Nat → Memory
  | [], _ => []
  | (a, b) :: m, x => if a = x then Memory.erase m x else (a, b) :: Memory.erase m x

/-- An entry put before the first larger address. -/
def Memory.insert : Memory → Nat → Byte → Memory
  | [], x, v => [(x, v)]
  | (a, b) :: m, x, v => if x < a then (x, v) :: (a, b) :: m else (a, b) :: Memory.insert m x v

/-- Storing a byte keeps the canonical form: storing what an unlisted address reads as removes the entry (log 15). -/
def Memory.write (m : Memory) (x : Nat) (v : Byte) : Memory :=
  if v = Config.unlistedByte then m.erase x else (m.erase x).insert x v

/-- The canonical form: addresses strictly rising and inside the 2^20 bytes, no entry equal to what an unlisted address reads as (log 15). -/
abbrev Memory.wf (m : Memory) : Prop :=
  m.Pairwise (fun c d => c.1 < d.1) ∧ ∀ c ∈ m, c.1 < Config.memBytes ∧ c.2 ≠ Config.unlistedByte

/-- `phys(seg, off) = ((seg << 4) + off) & 0xFFFFF` (R60). -/
def phys (seg off : Word) : PAddr := (seg.setWidth 20 <<< 4) + off.setWidth 20

/-- The byte of memory at a physical address. -/
def State.byteAt (s : State) (a : PAddr) : Byte := s.mem.read a.toNat

/-- The word at a physical address: low byte there, high byte at the next physical address modulo 2^20 (R63, R69). -/
def State.wordAt (s : State) (a : PAddr) : Word := leWord (s.byteAt a) (s.byteAt (a + 1))

/-- One byte stored, with no event. -/
def State.putByte (s : State) (a : PAddr) (v : Byte) : State := { s with mem := s.mem.write a.toNat v }

/-- One word stored, with no event (R65). -/
def State.putWord (s : State) (a : PAddr) (v : Word) : State := (s.putByte a (loByte v)).putByte (a + 1) (hiByte v)

/-- An observer event appended to the trace (R74; 10_state.md R39). -/
def State.emit (s : State) (e : Event) : State := { s with trace := s.trace ++ [e] }

/-- `MemWrite(addr, 1, v)` (R64). -/
def State.storeByte (s : State) (a : PAddr) (v : Byte) : State :=
  (s.putByte a v).emit (.write a .byte (v.setWidth 16))

/-- `MemWrite(addr, 2, v)` (R65). -/
def State.storeWord (s : State) (a : PAddr) (v : Word) : State :=
  (s.putWord a v).emit (.write a .word v)

/-! ## The stack (20_memory.md R70 to R72) -/

/-- `phys(SS, SP)`. -/
def State.stackTop (s : State) : PAddr := phys (s.reg .ss) (s.reg .sp)

/-- `Push16(v)`, `v` evaluated by the caller before SP changes (R70). -/
def State.push16 (s : State) (v : Word) : State :=
  let s1 := s.setReg .sp (s.reg .sp - 2)
  s1.storeWord s1.stackTop v

/-- The word `Pop16()` returns (R71). -/
def State.popValue (s : State) : Word := s.wordAt s.stackTop

/-- The state `Pop16()` leaves: the stack read in the trace, SP raised by 2 (R71). -/
def State.popped (s : State) : State :=
  (s.emit (.read s.stackTop .word)).setReg .sp (s.reg .sp + 2)

/-! ## Taking a fault, halting, and IRET -/

/-- `raise Fault(kind)`, the one trap entry of this hardware: it saves nothing on the stack, changes no mode and vectors nowhere; `run_state` becomes Faulted and the kind is recorded (60_exceptions.md R423, R435). The instruction pointer was committed before the handler ran, or not at all when decode refuses (R421, R422). -/
def State.raise (s : State) (k : FaultKind) : State :=
  { s with runState := .faulted, faultRecord := some k }

/-- The step ends with outcome Halted (47_flag_misc.md R329; 60_exceptions.md R446). -/
def State.halt (s : State) : State := { s with runState := .halted }

/-- What IRET does: it pops IP, CS and FLAGS in that order (48_control_transfer.md R379). It is no return from a fault, of which there is none (60_exceptions.md R436). -/
def State.interruptReturn (s : State) : State :=
  let s1 := s.popped
  let s2 := s1.popped
  let s3 := s2.popped
  ((s3.setReg .ip s.popValue).setReg .cs s1.popValue).setReg .flags s2.popValue

end Sys2Proof.Machine
end

