-- ==== Sys2Proof/Machine/Operands.lean ====
section
/-! DEFINITION. Operand forms: effective addresses, the places an operand can be, and reading and writing them (30_encoding.md R93; 40_execution_cycle.md R145 to R152; 43_arithmetic.md R220). -/

namespace Sys2Proof.Machine

/-! ## Effective addresses (30_encoding.md R93) -/

/-- The base and index sum, modulo 2^16. -/
def State.baseIndex (s : State) : BaseIndex → Word
  | .bxSi => s.reg .bx + s.reg .si
  | .bxDi => s.reg .bx + s.reg .di
  | .bpSi => s.reg .bp + s.reg .si
  | .bpDi => s.reg .bp + s.reg .di
  | .si => s.reg .si
  | .di => s.reg .di
  | .bp => s.reg .bp
  | .bx => s.reg .bx

/-- EA: the base and index plus the displacement modulo 2^16, an 8-bit displacement sign-extended. -/
def State.effAddr (s : State) : MemOperand → Word
  | .noDisp b => s.baseIndex b
  | .disp8 b d => s.baseIndex b + sext16 d
  | .disp16 b d => s.baseIndex b + d
  | .direct d => d

/-- SS when BP is a base register, else DS. -/
def BaseIndex.segment : BaseIndex → RegId
  | .bpSi | .bpDi | .bp => .ss
  | .bxSi | .bxDi | .si | .di | .bx => .ds

/-- The default segment of a memory operand, DS for the direct address; no prefix changes it. -/
def MemOperand.segment : MemOperand → RegId
  | .noDisp b | .disp8 b _ | .disp16 b _ => BaseIndex.segment b
  | .direct _ => .ds

/-- `phys(segment, EA)`. -/
def State.operandAddr (s : State) (m : MemOperand) : PAddr :=
  phys (s.reg (MemOperand.segment m)) (s.effAddr m)

/-! ## Places -/

/-- Where an operand of `n` bits is: a register or memory at a physical address fixed at decode (40_execution_cycle.md R145, R148, R149). -/
inductive Place : Nat → Type where
  | reg8 (r : Reg8) : Place 8
  | reg (r : RegId) : Place 16
  | byteAt (a : PAddr) : Place 8
  | wordAt (a : PAddr) : Place 16

/-- The place of a byte r/m operand, its address computed from the registers of `s` (40_execution_cycle.md R145). -/
def State.place8 (s : State) : Rm8 → Place 8
  | .reg r => .reg8 r
  | .mem m => .byteAt (s.operandAddr m)

/-- The place of a word r/m operand (40_execution_cycle.md R145). -/
def State.place16 (s : State) : Rm16 → Place 16
  | .reg r => .reg (Reg16.id r)
  | .mem m => .wordAt (s.operandAddr m)

/-- The value at a place. -/
def State.valueOf (s : State) {n : Nat} : Place n → BitVec n
  | .reg8 r => s.reg8 r
  | .reg r => s.reg r
  | .byteAt a => s.byteAt a
  | .wordAt a => s.wordAt a

/-- The event of reading a place: one read event when it is memory (40_execution_cycle.md R148). -/
def State.noteRead (s : State) {n : Nat} : Place n → State
  | .reg8 _ | .reg _ => s
  | .byteAt a => s.emit (.read a .byte)
  | .wordAt a => s.emit (.read a .word)

/-- Writing a place, with one write event when it is memory (40_execution_cycle.md R149, R151). -/
def State.writePlace (s : State) {n : Nat} (p : Place n) (v : BitVec n) : State :=
  match p, v with
  | .reg8 r, v => s.setReg8 r v
  | .reg r, v => s.setReg r v
  | .byteAt a, v => s.storeByte a v
  | .wordAt a, v => s.storeWord a v

/-- A source operand: a place or an immediate. -/
inductive Source (n : Nat) where
  | place (p : Place n)
  | imm (v : BitVec n)

/-- The value of a source operand. -/
def Source.value {n : Nat} (s : State) : Source n → BitVec n
  | .place p => s.valueOf p
  | .imm v => v

/-- The event of reading a source operand. -/
def Source.note {n : Nat} (s : State) : Source n → State
  | .place p => s.noteRead p
  | .imm _ => s

/-- AL and AX, the accumulator forms (43_arithmetic.md R220). -/
def placeAl : Place 8 := .reg8 .al
def placeAx : Place 16 := .reg .ax

/-- Reads `src`, then writes it to `dst`: the whole of MOV (42_data_transfer.md R190 to R196). -/
def State.move (s : State) {n : Nat} (dst : Place n) (src : Source n) : State :=
  (src.note s).writePlace dst (src.value s)

end Sys2Proof.Machine
end

