-- ==== Sys2Proof/Machine/Flags.lean ====
section
/-! DEFINITION. FLAGS bit by bit (10_state.md R27 to R30), the flag arithmetic (41_alu_flags.md R170 to R178), the shifts and rotates (45_shift_rotate.md R270 to R277) and the conditions (48_control_transfer.md R344 to R360). -/

namespace Sys2Proof.Machine

/-! ## The flags of the FLAGS word -/

/-- The nine flags (10_state.md R27). -/
inductive Flag where
  | cf | pf | af | zf | sf | tf | intf | df | of
  deriving DecidableEq, Repr

/-- The bit number of a flag (10_state.md R27). `intf` is IF. -/
def Flag.bit : Flag → Nat
  | .cf => 0 | .pf => 2 | .af => 4 | .zf => 6 | .sf => 7
  | .tf => 8 | .intf => 9 | .df => 10 | .of => 11

/-- The word with only a flag's bit set. -/
def Flag.mask (f : Flag) : Word := (1 : Word) <<< f.bit

/-- `flag_get(bit)`. -/
def State.flag (s : State) (f : Flag) : Bool := (s.reg .flags).getLsbD f.bit

/-- `flag_set(bit, value)`: one flag, the others kept. -/
def State.setFlag (s : State) (f : Flag) (b : Bool) : State :=
  s.setReg .flags (if b then s.reg .flags ||| f.mask else s.reg .flags &&& ~~~f.mask)

/-- The six status flags a primitive returns (41_alu_flags.md R172). -/
structure Status where
  cf : Bool
  pf : Bool
  af : Bool
  zf : Bool
  sf : Bool
  of : Bool
  deriving DecidableEq, Repr

/-- PF, AF, ZF, SF and OF written, CF kept: INC and DEC (41_alu_flags.md R175). -/
def State.setStatusKeepCf (s : State) (x : Status) : State :=
  ((((s.setFlag .pf x.pf).setFlag .af x.af).setFlag .zf x.zf).setFlag .sf x.sf).setFlag .of x.of

/-- All six status flags written; TF, IF and DF kept (41_alu_flags.md R177). -/
def State.setStatus (s : State) (x : Status) : State :=
  (s.setFlag .cf x.cf).setStatusKeepCf x

/-! ## The primitives -/

/-- `parity8(v)`: the number of 1 bits among v[7:0] is even (41_alu_flags.md R171). -/
def parity8 {n : Nat} (v : BitVec n) : Bool :=
  ((List.range 8).countP fun i => v.getLsbD i) % 2 == 0

/-- A result with its status flags. -/
structure AluOut (n : Nat) where
  result : BitVec n
  status : Status
  deriving DecidableEq, Repr

/-- `ADD_N(a, b, c)` (41_alu_flags.md R172). -/
def addN {n : Nat} (a b : BitVec n) (c : Bool) : AluOut n :=
  let full := a.toNat + b.toNat + c.toNat
  let r := BitVec.ofNat n full
  { result := r
    status :=
      { cf := decide (full > 2 ^ n - 1)
        zf := r == 0
        sf := r.msb
        of := a.msb == b.msb && r.msb != a.msb
        pf := parity8 r
        af := decide (a.toNat % 16 + b.toNat % 16 + c.toNat > 15) } }

/-- `SUB_N(a, b, c)` (41_alu_flags.md R173). -/
def subN {n : Nat} (a b : BitVec n) (c : Bool) : AluOut n :=
  let r := BitVec.ofNat n (a.toNat + 2 ^ (n + 1) - b.toNat - c.toNat)
  { result := r
    status :=
      { cf := decide (b.toNat + c.toNat > a.toNat)
        zf := r == 0
        sf := r.msb
        of := a.msb != b.msb && r.msb != a.msb
        pf := parity8 r
        af := decide (b.toNat % 16 + c.toNat > a.toNat % 16) } }

/-- `LOGIC_N(r)` (41_alu_flags.md R174): AF is written 0. -/
def logicN {n : Nat} (r : BitVec n) : AluOut n :=
  { result := r
    status := { cf := false, of := false, af := false, zf := r == 0, sf := r.msb, pf := parity8 r } }

/-- `INC_N(a)`, whose CF its callers discard (41_alu_flags.md R175). -/
def incN {n : Nat} (a : BitVec n) : AluOut n := addN a 1 false

/-- `DEC_N(a)`, whose CF its callers discard (41_alu_flags.md R175). -/
def decN {n : Nat} (a : BitVec n) : AluOut n := subN a 1 false

/-- `NEG_N(a)` (41_alu_flags.md R176). -/
def negN {n : Nat} (a : BitVec n) : AluOut n := subN 0 a false

/-- The eight ALU operations, in the order of `k` (43_arithmetic.md R220). -/
inductive AluOp where
  | add | or | adc | sbb | and | sub | xor | cmp
  deriving DecidableEq, Repr

/-- The result and flags of an ALU operation, `c` being CF before the instruction (43_arithmetic.md R221 to R225; 44_logic.md R250 to R252). -/
def aluOut {n : Nat} (op : AluOp) (a b : BitVec n) (c : Bool) : AluOut n :=
  match op with
  | .add => addN a b false
  | .or => logicN (a ||| b)
  | .adc => addN a b c
  | .sbb => subN a b c
  | .and => logicN (a &&& b)
  | .sub => subN a b false
  | .xor => logicN (a ^^^ b)
  | .cmp => subN a b false

/-- CMP discards the result (43_arithmetic.md R225); the others write it. -/
def aluWrites : AluOp → Bool
  | .cmp => false
  | .add | .or | .adc | .sbb | .and | .sub | .xor => true

/-- One ALU instruction: read both operands, compute, write the destination, write the flags (43_arithmetic.md R220; 40_execution_cycle.md R152). -/
def State.alu (s : State) {n : Nat} (op : AluOp) (dst : Place n) (src : Source n) : State :=
  let out := aluOut op (s.valueOf dst) (src.value s) (s.flag .cf)
  let s1 := src.note (s.noteRead dst)
  let s2 := if aluWrites op then s1.writePlace dst out.result else s1
  s2.setStatus out.status

/-- TEST: AND that discards the result (44_logic.md R253). -/
def State.test (s : State) {n : Nat} (a : Place n) (b : Source n) : State :=
  (b.note (s.noteRead a)).setStatus (logicN (s.valueOf a &&& b.value s)).status

/-- INC (43_arithmetic.md R226, R227). -/
def State.inc (s : State) {n : Nat} (p : Place n) : State :=
  let out := incN (s.valueOf p)
  ((s.noteRead p).writePlace p out.result).setStatusKeepCf out.status

/-- DEC (43_arithmetic.md R228, R229). -/
def State.dec (s : State) {n : Nat} (p : Place n) : State :=
  let out := decN (s.valueOf p)
  ((s.noteRead p).writePlace p out.result).setStatusKeepCf out.status

/-- NEG (43_arithmetic.md R230). -/
def State.neg (s : State) {n : Nat} (p : Place n) : State :=
  let out := negN (s.valueOf p)
  ((s.noteRead p).writePlace p out.result).setStatus out.status

/-- NOT writes no flag (44_logic.md R254). -/
def State.not (s : State) {n : Nat} (p : Place n) : State :=
  (s.noteRead p).writePlace p (~~~s.valueOf p)

/-! ## Shifts and rotates (45_shift_rotate.md R270 to R277) -/

/-- The seven operations; `shl` is also SAL. -/
inductive ShiftOp where
  | rol | ror | rcl | rcr | shl | shr | sar
  deriving DecidableEq, Repr

/-- One one-bit step on the operand and CF (R271 to R277). -/
def shiftStep {n : Nat} (op : ShiftOp) (x : BitVec n) (cf : Bool) : BitVec n × Bool :=
  match op with
  | .rol => (x <<< 1 ||| BitVec.ofNat n x.msb.toNat, x.msb)
  | .ror => (x >>> 1 ||| BitVec.ofNat n (x.getLsbD 0).toNat <<< (n - 1), x.getLsbD 0)
  | .rcl => (x <<< 1 ||| BitVec.ofNat n cf.toNat, x.msb)
  | .rcr => (x >>> 1 ||| BitVec.ofNat n cf.toNat <<< (n - 1), x.getLsbD 0)
  | .shl => (x <<< 1, x.msb)
  | .shr => (x >>> 1, x.getLsbD 0)
  | .sar => (x >>> 1 ||| (x &&& BitVec.ofNat n 1 <<< (n - 1)), x.getLsbD 0)

/-- `count` one-bit steps (R270). -/
def shiftSteps {n : Nat} (op : ShiftOp) : Nat → BitVec n → Bool → BitVec n × Bool
  | 0, x, cf => (x, cf)
  | k + 1, x, cf => shiftSteps op k (shiftStep op x cf).1 (shiftStep op x cf).2

/-- OF after a count of 1: `a` is the operand and `c` CF before, `x` the result and `d` CF after (R271 to R277). -/
def shiftOf {n : Nat} (op : ShiftOp) (a : BitVec n) (c : Bool) (x : BitVec n) (d : Bool) : Bool :=
  match op with
  | .rol | .rcl | .shl => d ^^ x.msb
  | .ror => d ^^ a.msb
  | .rcr => a.msb ^^ c
  | .shr => a.msb
  | .sar => false

/-- Whether ZF, SF and PF come from the result: the shifts, not the rotates (10_state.md R28). -/
def shiftSetsZsp : ShiftOp → Bool
  | .rol | .ror | .rcl | .rcr => false
  | .shl | .shr | .sar => true

/-- One shift or rotate by `count`, not masked (R270). The operand is read and written back also when the count is 0, and then no flag changes. AF is kept, and OF unless the count is 1 (log 8). -/
def State.shift (s : State) {n : Nat} (op : ShiftOp) (p : Place n) (count : Nat) : State :=
  let a := s.valueOf p
  let c := s.flag .cf
  let out := shiftSteps op count a c
  let s1 := (s.noteRead p).writePlace p out.1
  if count = 0 then s1
  else
    let s2 := s1.setFlag .cf out.2
    let s3 :=
      if shiftSetsZsp op then
        ((s2.setFlag .zf (out.1 == 0)).setFlag .sf out.1.msb).setFlag .pf (parity8 out.1)
      else s2
    if count = 1 then s3.setFlag .of (shiftOf op a c out.1 out.2) else s3

/-- The count of the CL forms: the full 8-bit value of CL (R270). -/
def State.clCount (s : State) : Nat := (s.reg8 .cl).toNat

/-! ## Conditions (48_control_transfer.md R344 to R360) -/

/-- The sixteen conditions, in the order of `cc`. -/
inductive Cond where
  | o | no | b | nb | e | ne | be | a | s | ns | p | np | l | ge | le | g
  deriving DecidableEq, Repr

/-- Whether a condition holds (R345 to R360). -/
def State.cond (st : State) : Cond → Bool
  | .o => st.flag .of
  | .no => !st.flag .of
  | .b => st.flag .cf
  | .nb => !st.flag .cf
  | .e => st.flag .zf
  | .ne => !st.flag .zf
  | .be => st.flag .cf || st.flag .zf
  | .a => !st.flag .cf && !st.flag .zf
  | .s => st.flag .sf
  | .ns => !st.flag .sf
  | .p => st.flag .pf
  | .np => !st.flag .pf
  | .l => st.flag .sf != st.flag .of
  | .ge => st.flag .sf == st.flag .of
  | .le => st.flag .zf || st.flag .sf != st.flag .of
  | .g => !st.flag .zf && st.flag .sf == st.flag .of

end Sys2Proof.Machine
end

