-- ==== Sys2Proof/Machine/Arithmetic.lean ====
section
/-! DEFINITION. ADD, ADC, SUB, SBB, CMP, INC, DEC and NEG (43_arithmetic.md R220 to R230), each over a shared operation of Machine/Flags.lean. -/

namespace Sys2Proof.Machine

/-- `00` ADD r/m8, r8 (R221). -/
def execAddRm8R8 (d : Rm8) (r : Reg8) (s : State) : Host.Outcome State Fault Refusal :=
  .next (s.alu .add (s.place8 d) (.place (.reg8 r)))

/-- `01` ADD r/m16, r16 (R221). -/
def execAddRm16R16 (d : Rm16) (r : Reg16) (s : State) : Host.Outcome State Fault Refusal :=
  .next (s.alu .add (s.place16 d) (.place (.reg (Reg16.id r))))

/-- `02` ADD r8, r/m8 (R221). -/
def execAddR8Rm8 (d : Reg8) (r : Rm8) (s : State) : Host.Outcome State Fault Refusal :=
  .next (s.alu .add (.reg8 d) (.place (s.place8 r)))

/-- `03` ADD r16, r/m16 (R221). -/
def execAddR16Rm16 (d : Reg16) (r : Rm16) (s : State) : Host.Outcome State Fault Refusal :=
  .next (s.alu .add (.reg (Reg16.id d)) (.place (s.place16 r)))

/-- `04` ADD AL, imm8 (R221). -/
def execAddAlImm8 (v : Byte) (s : State) : Host.Outcome State Fault Refusal :=
  .next (s.alu .add placeAl (.imm v))

/-- `05` ADD AX, imm16 (R221). -/
def execAddAxImm16 (v : Word) (s : State) : Host.Outcome State Fault Refusal :=
  .next (s.alu .add placeAx (.imm v))

/-- `80 /0` ADD r/m8, imm8 (R221). -/
def execAddRm8Imm8 (d : Rm8) (v : Byte) (s : State) : Host.Outcome State Fault Refusal :=
  .next (s.alu .add (s.place8 d) (.imm v))

/-- `81 /0` ADD r/m16, imm16 (R221). -/
def execAddRm16Imm16 (d : Rm16) (v : Word) (s : State) : Host.Outcome State Fault Refusal :=
  .next (s.alu .add (s.place16 d) (.imm v))

/-- `83 /0` ADD r/m16, simm8 (R221). -/
def execAddRm16Simm8 (d : Rm16) (v : Byte) (s : State) : Host.Outcome State Fault Refusal :=
  .next (s.alu .add (s.place16 d) (.imm (sext16 v)))

/-- `10` ADC r/m8, r8 (R222). -/
def execAdcRm8R8 (d : Rm8) (r : Reg8) (s : State) : Host.Outcome State Fault Refusal :=
  .next (s.alu .adc (s.place8 d) (.place (.reg8 r)))

/-- `11` ADC r/m16, r16 (R222). -/
def execAdcRm16R16 (d : Rm16) (r : Reg16) (s : State) : Host.Outcome State Fault Refusal :=
  .next (s.alu .adc (s.place16 d) (.place (.reg (Reg16.id r))))

/-- `12` ADC r8, r/m8 (R222). -/
def execAdcR8Rm8 (d : Reg8) (r : Rm8) (s : State) : Host.Outcome State Fault Refusal :=
  .next (s.alu .adc (.reg8 d) (.place (s.place8 r)))

/-- `13` ADC r16, r/m16 (R222). -/
def execAdcR16Rm16 (d : Reg16) (r : Rm16) (s : State) : Host.Outcome State Fault Refusal :=
  .next (s.alu .adc (.reg (Reg16.id d)) (.place (s.place16 r)))

/-- `14` ADC AL, imm8 (R222). -/
def execAdcAlImm8 (v : Byte) (s : State) : Host.Outcome State Fault Refusal :=
  .next (s.alu .adc placeAl (.imm v))

/-- `15` ADC AX, imm16 (R222). -/
def execAdcAxImm16 (v : Word) (s : State) : Host.Outcome State Fault Refusal :=
  .next (s.alu .adc placeAx (.imm v))

/-- `80 /2` ADC r/m8, imm8 (R222). -/
def execAdcRm8Imm8 (d : Rm8) (v : Byte) (s : State) : Host.Outcome State Fault Refusal :=
  .next (s.alu .adc (s.place8 d) (.imm v))

/-- `81 /2` ADC r/m16, imm16 (R222). -/
def execAdcRm16Imm16 (d : Rm16) (v : Word) (s : State) : Host.Outcome State Fault Refusal :=
  .next (s.alu .adc (s.place16 d) (.imm v))

/-- `83 /2` ADC r/m16, simm8 (R222). -/
def execAdcRm16Simm8 (d : Rm16) (v : Byte) (s : State) : Host.Outcome State Fault Refusal :=
  .next (s.alu .adc (s.place16 d) (.imm (sext16 v)))

/-- `18` SBB r/m8, r8 (R224). -/
def execSbbRm8R8 (d : Rm8) (r : Reg8) (s : State) : Host.Outcome State Fault Refusal :=
  .next (s.alu .sbb (s.place8 d) (.place (.reg8 r)))

/-- `19` SBB r/m16, r16 (R224). -/
def execSbbRm16R16 (d : Rm16) (r : Reg16) (s : State) : Host.Outcome State Fault Refusal :=
  .next (s.alu .sbb (s.place16 d) (.place (.reg (Reg16.id r))))

/-- `1A` SBB r8, r/m8 (R224). -/
def execSbbR8Rm8 (d : Reg8) (r : Rm8) (s : State) : Host.Outcome State Fault Refusal :=
  .next (s.alu .sbb (.reg8 d) (.place (s.place8 r)))

/-- `1B` SBB r16, r/m16 (R224). -/
def execSbbR16Rm16 (d : Reg16) (r : Rm16) (s : State) : Host.Outcome State Fault Refusal :=
  .next (s.alu .sbb (.reg (Reg16.id d)) (.place (s.place16 r)))

/-- `1C` SBB AL, imm8 (R224). -/
def execSbbAlImm8 (v : Byte) (s : State) : Host.Outcome State Fault Refusal :=
  .next (s.alu .sbb placeAl (.imm v))

/-- `1D` SBB AX, imm16 (R224). -/
def execSbbAxImm16 (v : Word) (s : State) : Host.Outcome State Fault Refusal :=
  .next (s.alu .sbb placeAx (.imm v))

/-- `80 /3` SBB r/m8, imm8 (R224). -/
def execSbbRm8Imm8 (d : Rm8) (v : Byte) (s : State) : Host.Outcome State Fault Refusal :=
  .next (s.alu .sbb (s.place8 d) (.imm v))

/-- `81 /3` SBB r/m16, imm16 (R224). -/
def execSbbRm16Imm16 (d : Rm16) (v : Word) (s : State) : Host.Outcome State Fault Refusal :=
  .next (s.alu .sbb (s.place16 d) (.imm v))

/-- `83 /3` SBB r/m16, simm8 (R224). -/
def execSbbRm16Simm8 (d : Rm16) (v : Byte) (s : State) : Host.Outcome State Fault Refusal :=
  .next (s.alu .sbb (s.place16 d) (.imm (sext16 v)))

/-- `28` SUB r/m8, r8 (R223). -/
def execSubRm8R8 (d : Rm8) (r : Reg8) (s : State) : Host.Outcome State Fault Refusal :=
  .next (s.alu .sub (s.place8 d) (.place (.reg8 r)))

/-- `29` SUB r/m16, r16 (R223). -/
def execSubRm16R16 (d : Rm16) (r : Reg16) (s : State) : Host.Outcome State Fault Refusal :=
  .next (s.alu .sub (s.place16 d) (.place (.reg (Reg16.id r))))

/-- `2A` SUB r8, r/m8 (R223). -/
def execSubR8Rm8 (d : Reg8) (r : Rm8) (s : State) : Host.Outcome State Fault Refusal :=
  .next (s.alu .sub (.reg8 d) (.place (s.place8 r)))

/-- `2B` SUB r16, r/m16 (R223). -/
def execSubR16Rm16 (d : Reg16) (r : Rm16) (s : State) : Host.Outcome State Fault Refusal :=
  .next (s.alu .sub (.reg (Reg16.id d)) (.place (s.place16 r)))

/-- `2C` SUB AL, imm8 (R223). -/
def execSubAlImm8 (v : Byte) (s : State) : Host.Outcome State Fault Refusal :=
  .next (s.alu .sub placeAl (.imm v))

/-- `2D` SUB AX, imm16 (R223). -/
def execSubAxImm16 (v : Word) (s : State) : Host.Outcome State Fault Refusal :=
  .next (s.alu .sub placeAx (.imm v))

/-- `80 /5` SUB r/m8, imm8 (R223). -/
def execSubRm8Imm8 (d : Rm8) (v : Byte) (s : State) : Host.Outcome State Fault Refusal :=
  .next (s.alu .sub (s.place8 d) (.imm v))

/-- `81 /5` SUB r/m16, imm16 (R223). -/
def execSubRm16Imm16 (d : Rm16) (v : Word) (s : State) : Host.Outcome State Fault Refusal :=
  .next (s.alu .sub (s.place16 d) (.imm v))

/-- `83 /5` SUB r/m16, simm8 (R223). -/
def execSubRm16Simm8 (d : Rm16) (v : Byte) (s : State) : Host.Outcome State Fault Refusal :=
  .next (s.alu .sub (s.place16 d) (.imm (sext16 v)))

/-- `38` CMP r/m8, r8 (R225). -/
def execCmpRm8R8 (d : Rm8) (r : Reg8) (s : State) : Host.Outcome State Fault Refusal :=
  .next (s.alu .cmp (s.place8 d) (.place (.reg8 r)))

/-- `39` CMP r/m16, r16 (R225). -/
def execCmpRm16R16 (d : Rm16) (r : Reg16) (s : State) : Host.Outcome State Fault Refusal :=
  .next (s.alu .cmp (s.place16 d) (.place (.reg (Reg16.id r))))

/-- `3A` CMP r8, r/m8 (R225). -/
def execCmpR8Rm8 (d : Reg8) (r : Rm8) (s : State) : Host.Outcome State Fault Refusal :=
  .next (s.alu .cmp (.reg8 d) (.place (s.place8 r)))

/-- `3B` CMP r16, r/m16 (R225). -/
def execCmpR16Rm16 (d : Reg16) (r : Rm16) (s : State) : Host.Outcome State Fault Refusal :=
  .next (s.alu .cmp (.reg (Reg16.id d)) (.place (s.place16 r)))

/-- `3C` CMP AL, imm8 (R225). -/
def execCmpAlImm8 (v : Byte) (s : State) : Host.Outcome State Fault Refusal :=
  .next (s.alu .cmp placeAl (.imm v))

/-- `3D` CMP AX, imm16 (R225). -/
def execCmpAxImm16 (v : Word) (s : State) : Host.Outcome State Fault Refusal :=
  .next (s.alu .cmp placeAx (.imm v))

/-- `80 /7` CMP r/m8, imm8 (R225). -/
def execCmpRm8Imm8 (d : Rm8) (v : Byte) (s : State) : Host.Outcome State Fault Refusal :=
  .next (s.alu .cmp (s.place8 d) (.imm v))

/-- `81 /7` CMP r/m16, imm16 (R225). -/
def execCmpRm16Imm16 (d : Rm16) (v : Word) (s : State) : Host.Outcome State Fault Refusal :=
  .next (s.alu .cmp (s.place16 d) (.imm v))

/-- `83 /7` CMP r/m16, simm8 (R225). -/
def execCmpRm16Simm8 (d : Rm16) (v : Byte) (s : State) : Host.Outcome State Fault Refusal :=
  .next (s.alu .cmp (s.place16 d) (.imm (sext16 v)))

/-- `40+reg` INC r16 (R226). -/
def execIncR16 (r : Reg16) (s : State) : Host.Outcome State Fault Refusal :=
  .next (s.inc (.reg (Reg16.id r)))

/-- `48+reg` DEC r16 (R228). -/
def execDecR16 (r : Reg16) (s : State) : Host.Outcome State Fault Refusal :=
  .next (s.dec (.reg (Reg16.id r)))

/-- `F6 /3` NEG r/m8 (R230). -/
def execNegRm8 (r : Rm8) (s : State) : Host.Outcome State Fault Refusal :=
  .next (s.neg (s.place8 r))

/-- `F7 /3` NEG r/m16 (R230). -/
def execNegRm16 (r : Rm16) (s : State) : Host.Outcome State Fault Refusal :=
  .next (s.neg (s.place16 r))

/-- `FE /0` INC r/m8 (R227). -/
def execIncRm8 (r : Rm8) (s : State) : Host.Outcome State Fault Refusal :=
  .next (s.inc (s.place8 r))

/-- `FE /1` DEC r/m8 (R229). -/
def execDecRm8 (r : Rm8) (s : State) : Host.Outcome State Fault Refusal :=
  .next (s.dec (s.place8 r))

/-- `FF /0` INC r/m16 (R227). -/
def execIncRm16 (r : Rm16) (s : State) : Host.Outcome State Fault Refusal :=
  .next (s.inc (s.place16 r))

/-- `FF /1` DEC r/m16 (R229). -/
def execDecRm16 (r : Rm16) (s : State) : Host.Outcome State Fault Refusal :=
  .next (s.dec (s.place16 r))

end Sys2Proof.Machine
end

