-- ==== Sys2Proof/Machine/ControlTransfer.lean ====
section
/-! DEFINITION. JMP, Jcc, LOOP, CALL, RET and IRET (48_control_transfer.md R340 to R379). IP holds IP_next when a meaning runs (40_execution_cycle.md R147). -/

namespace Sys2Proof.Machine

/-- A relative transfer: `IP <- (IP_next + disp) & 0xFFFF` (R340). -/
def State.jumpRel (s : State) (disp : Word) : State := s.setReg .ip (s.reg .ip + disp)

/-- A far transfer to `seg:off` (R340, R343). -/
def State.jumpFar (s : State) (off seg : Word) : State := (s.setReg .ip off).setReg .cs seg

/-- A conditional jump (R344). -/
def State.jumpIf (s : State) (c : Cond) (disp : Byte) : State :=
  if s.cond c then s.jumpRel (sext16 disp) else s

/-- CX is decremented; the jump is taken when CX is then not 0 and `extra` holds (R361 to R363). No flag changes. -/
def State.loop (s : State) (extra : Bool) (disp : Byte) : State :=
  let s1 := s.setReg .cx (s.reg .cx - 1)
  if s1.reg .cx ≠ 0 ∧ extra = true then s1.jumpRel (sext16 disp) else s1

/-- `IP <- Pop16()` (R372). -/
def State.returnNear (s : State) : State := s.popped.setReg .ip s.popValue

/-- `IP <- Pop16(); CS <- Pop16()` (R374). -/
def State.returnFar (s : State) : State :=
  (s.popped.popped.setReg .ip s.popValue).setReg .cs s.popped.popValue

/-- `SP <- (SP + imm16) & 0xFFFF` (R373, R375). -/
def State.dropBytes (s : State) (v : Word) : State := s.setReg .sp (s.reg .sp + v)

/-- `70` JO rel8 (R345). -/
def execJoRel8 (disp : Byte) (s : State) : Host.Outcome State Fault Refusal :=
  .next (s.jumpIf .o disp)

/-- `71` JNO rel8 (R346). -/
def execJnoRel8 (disp : Byte) (s : State) : Host.Outcome State Fault Refusal :=
  .next (s.jumpIf .no disp)

/-- `72` JB/JNAE/JC rel8 (R347). -/
def execJbRel8 (disp : Byte) (s : State) : Host.Outcome State Fault Refusal :=
  .next (s.jumpIf .b disp)

/-- `73` JNB/JAE/JNC rel8 (R348). -/
def execJnbRel8 (disp : Byte) (s : State) : Host.Outcome State Fault Refusal :=
  .next (s.jumpIf .nb disp)

/-- `74` JE/JZ rel8 (R349). -/
def execJeRel8 (disp : Byte) (s : State) : Host.Outcome State Fault Refusal :=
  .next (s.jumpIf .e disp)

/-- `75` JNE/JNZ rel8 (R350). -/
def execJneRel8 (disp : Byte) (s : State) : Host.Outcome State Fault Refusal :=
  .next (s.jumpIf .ne disp)

/-- `76` JBE/JNA rel8 (R351). -/
def execJbeRel8 (disp : Byte) (s : State) : Host.Outcome State Fault Refusal :=
  .next (s.jumpIf .be disp)

/-- `77` JA/JNBE rel8 (R352). -/
def execJaRel8 (disp : Byte) (s : State) : Host.Outcome State Fault Refusal :=
  .next (s.jumpIf .a disp)

/-- `78` JS rel8 (R353). -/
def execJsRel8 (disp : Byte) (s : State) : Host.Outcome State Fault Refusal :=
  .next (s.jumpIf .s disp)

/-- `79` JNS rel8 (R354). -/
def execJnsRel8 (disp : Byte) (s : State) : Host.Outcome State Fault Refusal :=
  .next (s.jumpIf .ns disp)

/-- `7A` JP/JPE rel8 (R355). -/
def execJpRel8 (disp : Byte) (s : State) : Host.Outcome State Fault Refusal :=
  .next (s.jumpIf .p disp)

/-- `7B` JNP/JPO rel8 (R356). -/
def execJnpRel8 (disp : Byte) (s : State) : Host.Outcome State Fault Refusal :=
  .next (s.jumpIf .np disp)

/-- `7C` JL/JNGE rel8 (R357). -/
def execJlRel8 (disp : Byte) (s : State) : Host.Outcome State Fault Refusal :=
  .next (s.jumpIf .l disp)

/-- `7D` JGE/JNL rel8 (R358). -/
def execJgeRel8 (disp : Byte) (s : State) : Host.Outcome State Fault Refusal :=
  .next (s.jumpIf .ge disp)

/-- `7E` JLE/JNG rel8 (R359). -/
def execJleRel8 (disp : Byte) (s : State) : Host.Outcome State Fault Refusal :=
  .next (s.jumpIf .le disp)

/-- `7F` JG/JNLE rel8 (R360). -/
def execJgRel8 (disp : Byte) (s : State) : Host.Outcome State Fault Refusal :=
  .next (s.jumpIf .g disp)

/-- `9A` CALL ptr16:16 (R371). -/
def execCallFar (off : Word) (seg : Word) (s : State) : Host.Outcome State Fault Refusal :=
  .next (((s.push16 (s.reg .cs)).push16 (s.reg .ip)).jumpFar off seg)

/-- `C2` RET imm16 (R373). -/
def execRetImm16 (v : Word) (s : State) : Host.Outcome State Fault Refusal :=
  .next (s.returnNear.dropBytes v)

/-- `C3` RET (R372). -/
def execRet (s : State) : Host.Outcome State Fault Refusal :=
  .next s.returnNear

/-- `CA` RETF imm16 (R375). -/
def execRetfImm16 (v : Word) (s : State) : Host.Outcome State Fault Refusal :=
  .next (s.returnFar.dropBytes v)

/-- `CB` RETF (R374). -/
def execRetf (s : State) : Host.Outcome State Fault Refusal :=
  .next s.returnFar

/-- `CF` IRET (R379). -/
def execIret (s : State) : Host.Outcome State Fault Refusal :=
  .next s.interruptReturn

/-- `E0` LOOPNE/LOOPNZ rel8 (R363). -/
def execLoopneRel8 (disp : Byte) (s : State) : Host.Outcome State Fault Refusal :=
  .next (s.loop (!s.flag .zf) disp)

/-- `E1` LOOPE/LOOPZ rel8 (R362). -/
def execLoopeRel8 (disp : Byte) (s : State) : Host.Outcome State Fault Refusal :=
  .next (s.loop (s.flag .zf) disp)

/-- `E2` LOOP rel8 (R361). -/
def execLoopRel8 (disp : Byte) (s : State) : Host.Outcome State Fault Refusal :=
  .next (s.loop true disp)

/-- `E8` CALL rel16 (R370). -/
def execCallRel16 (disp : Word) (s : State) : Host.Outcome State Fault Refusal :=
  .next ((s.push16 (s.reg .ip)).jumpRel disp)

/-- `E9` JMP rel16 (R342). -/
def execJmpRel16 (disp : Word) (s : State) : Host.Outcome State Fault Refusal :=
  .next (s.jumpRel disp)

/-- `EA` JMP ptr16:16 (R343). -/
def execJmpFar (off : Word) (seg : Word) (s : State) : Host.Outcome State Fault Refusal :=
  .next (s.jumpFar off seg)

/-- `EB` JMP rel8 (R341). -/
def execJmpRel8 (disp : Byte) (s : State) : Host.Outcome State Fault Refusal :=
  .next (s.jumpRel (sext16 disp))

end Sys2Proof.Machine
end

