-- ==== Sys2Proof/Machine/DataTransfer.lean ====
section
/-! DEFINITION. MOV, PUSH and POP (42_data_transfer.md R190 to R204). No instruction here reads or writes a flag (R203). -/

namespace Sys2Proof.Machine

/-- `DS:moffs16` (R193, R194). -/
def State.moffsAddr (s : State) (off : Word) : PAddr := phys (s.reg .ds) off

/-- PUSH: the value is read before SP changes (R197 to R199). -/
def State.pushPlace (s : State) (p : Place 16) : State := (s.noteRead p).push16 (s.valueOf p)

/-- POP: SP is raised before the destination is written (R200 to R202). -/
def State.popPlace (s : State) (p : Place 16) : State := s.popped.writePlace p s.popValue

/-- `06` PUSH ES (R198). -/
def execPushEs (s : State) : Host.Outcome State Fault Refusal :=
  .next (s.pushPlace (.reg .es))

/-- `0E` PUSH CS (R198). -/
def execPushCs (s : State) : Host.Outcome State Fault Refusal :=
  .next (s.pushPlace (.reg .cs))

/-- `16` PUSH SS (R198). -/
def execPushSs (s : State) : Host.Outcome State Fault Refusal :=
  .next (s.pushPlace (.reg .ss))

/-- `1E` PUSH DS (R198). -/
def execPushDs (s : State) : Host.Outcome State Fault Refusal :=
  .next (s.pushPlace (.reg .ds))

/-- `07` POP ES (R201). -/
def execPopEs (s : State) : Host.Outcome State Fault Refusal :=
  .next (s.popPlace (.reg .es))

/-- `17` POP SS (R201). -/
def execPopSs (s : State) : Host.Outcome State Fault Refusal :=
  .next (s.popPlace (.reg .ss))

/-- `1F` POP DS (R201). -/
def execPopDs (s : State) : Host.Outcome State Fault Refusal :=
  .next (s.popPlace (.reg .ds))

/-- `50+reg` PUSH r16 (R197). -/
def execPushR16 (r : Reg16) (s : State) : Host.Outcome State Fault Refusal :=
  .next (s.pushPlace (.reg (Reg16.id r)))

/-- `58+reg` POP r16 (R200). -/
def execPopR16 (r : Reg16) (s : State) : Host.Outcome State Fault Refusal :=
  .next (s.popPlace (.reg (Reg16.id r)))

/-- `88` MOV r/m8, r8 (R190). -/
def execMovRm8R8 (d : Rm8) (r : Reg8) (s : State) : Host.Outcome State Fault Refusal :=
  .next (s.move (s.place8 d) (.place (.reg8 r)))

/-- `89` MOV r/m16, r16 (R190). -/
def execMovRm16R16 (d : Rm16) (r : Reg16) (s : State) : Host.Outcome State Fault Refusal :=
  .next (s.move (s.place16 d) (.place (.reg (Reg16.id r))))

/-- `8A` MOV r8, r/m8 (R191). -/
def execMovR8Rm8 (d : Reg8) (r : Rm8) (s : State) : Host.Outcome State Fault Refusal :=
  .next (s.move (.reg8 d) (.place (s.place8 r)))

/-- `8B` MOV r16, r/m16 (R191). -/
def execMovR16Rm16 (d : Reg16) (r : Rm16) (s : State) : Host.Outcome State Fault Refusal :=
  .next (s.move (.reg (Reg16.id d)) (.place (s.place16 r)))

/-- `8C /0` MOV r/m16, ES (R195). -/
def execMovRm16Es (r : Rm16) (s : State) : Host.Outcome State Fault Refusal :=
  .next (s.move (s.place16 r) (.place (.reg .es)))

/-- `8C /1` MOV r/m16, CS (R195). -/
def execMovRm16Cs (r : Rm16) (s : State) : Host.Outcome State Fault Refusal :=
  .next (s.move (s.place16 r) (.place (.reg .cs)))

/-- `8C /2` MOV r/m16, SS (R195). -/
def execMovRm16Ss (r : Rm16) (s : State) : Host.Outcome State Fault Refusal :=
  .next (s.move (s.place16 r) (.place (.reg .ss)))

/-- `8C /3` MOV r/m16, DS (R195). -/
def execMovRm16Ds (r : Rm16) (s : State) : Host.Outcome State Fault Refusal :=
  .next (s.move (s.place16 r) (.place (.reg .ds)))

/-- `8E /0` MOV ES, r/m16 (R196). -/
def execMovEsRm16 (r : Rm16) (s : State) : Host.Outcome State Fault Refusal :=
  .next (s.move (.reg .es) (.place (s.place16 r)))

/-- `8E /2` MOV SS, r/m16 (R196). -/
def execMovSsRm16 (r : Rm16) (s : State) : Host.Outcome State Fault Refusal :=
  .next (s.move (.reg .ss) (.place (s.place16 r)))

/-- `8E /3` MOV DS, r/m16 (R196). -/
def execMovDsRm16 (r : Rm16) (s : State) : Host.Outcome State Fault Refusal :=
  .next (s.move (.reg .ds) (.place (s.place16 r)))

/-- `8F /0` POP r/m16 (R202). -/
def execPopRm16 (r : Rm16) (s : State) : Host.Outcome State Fault Refusal :=
  .next (s.popPlace (s.place16 r))

/-- `A0` MOV AL, [moffs16] (R193). -/
def execMovAlMoffs (off : Word) (s : State) : Host.Outcome State Fault Refusal :=
  .next (s.move placeAl (.place (.byteAt (s.moffsAddr off))))

/-- `A1` MOV AX, [moffs16] (R193). -/
def execMovAxMoffs (off : Word) (s : State) : Host.Outcome State Fault Refusal :=
  .next (s.move placeAx (.place (.wordAt (s.moffsAddr off))))

/-- `A2` MOV [moffs16], AL (R194). -/
def execMovMoffsAl (off : Word) (s : State) : Host.Outcome State Fault Refusal :=
  .next (s.move (.byteAt (s.moffsAddr off)) (.place placeAl))

/-- `A3` MOV [moffs16], AX (R194). -/
def execMovMoffsAx (off : Word) (s : State) : Host.Outcome State Fault Refusal :=
  .next (s.move (.wordAt (s.moffsAddr off)) (.place placeAx))

/-- `B0+reg` MOV r8, imm8 (R192). -/
def execMovR8Imm8 (d : Reg8) (v : Byte) (s : State) : Host.Outcome State Fault Refusal :=
  .next (s.move (.reg8 d) (.imm v))

/-- `B8+reg` MOV r16, imm16 (R192). -/
def execMovR16Imm16 (d : Reg16) (v : Word) (s : State) : Host.Outcome State Fault Refusal :=
  .next (s.move (.reg (Reg16.id d)) (.imm v))

/-- `FF /6` PUSH r/m16 (R199). -/
def execPushRm16 (r : Rm16) (s : State) : Host.Outcome State Fault Refusal :=
  .next (s.pushPlace (s.place16 r))

end Sys2Proof.Machine
end

