-- ==== Sys2Proof/Machine/FlagMisc.lean ====
section
/-! DEFINITION. LAHF, SAHF, the flag controls, NOP and HLT (47_flag_misc.md R320 to R329). -/

namespace Sys2Proof.Machine

/-- What LAHF loads: SF, ZF, 0, AF, 0, PF, 1, CF (R320). Bit 1 is a constant 1 although FLAGS bit 1 reads 0 (conflict C1). -/
def State.lahfByte (s : State) : Byte :=
  (BitVec.ofBool (s.flag .sf) ++ BitVec.ofBool (s.flag .zf) ++ (0 : BitVec 1) ++ BitVec.ofBool (s.flag .af)
    ++ (0 : BitVec 1) ++ BitVec.ofBool (s.flag .pf) ++ (1 : BitVec 1) ++ BitVec.ofBool (s.flag .cf))

/-- What SAHF does with AH: bits 7, 6, 4, 2 and 0 go to SF, ZF, AF, PF and CF (R321). -/
def State.loadFlagsByte (s : State) (v : Byte) : State :=
  ((((s.setFlag .sf (v.getLsbD 7)).setFlag .zf (v.getLsbD 6)).setFlag .af (v.getLsbD 4)).setFlag .pf (v.getLsbD 2)).setFlag
    .cf (v.getLsbD 0)

/-- `90` NOP (R328). -/
def execNop (s : State) : Host.Outcome State Fault Refusal :=
  .next s

/-- `9E` SAHF (R321). -/
def execSahf (s : State) : Host.Outcome State Fault Refusal :=
  .next (s.loadFlagsByte (s.reg8 .ah))

/-- `9F` LAHF (R320). -/
def execLahf (s : State) : Host.Outcome State Fault Refusal :=
  .next (s.setReg8 .ah s.lahfByte)

/-- `F4` HLT (R329). -/
def execHlt (s : State) : Host.Outcome State Fault Refusal :=
  .next s.halt

/-- `F8` CLC (R322). -/
def execClc (s : State) : Host.Outcome State Fault Refusal :=
  .next (s.setFlag .cf false)

/-- `F9` STC (R323). -/
def execStc (s : State) : Host.Outcome State Fault Refusal :=
  .next (s.setFlag .cf true)

/-- `FA` CLI (R324). -/
def execCli (s : State) : Host.Outcome State Fault Refusal :=
  .next (s.setFlag .intf false)

/-- `FB` STI (R325). -/
def execSti (s : State) : Host.Outcome State Fault Refusal :=
  .next (s.setFlag .intf true)

/-- `FC` CLD (R326). -/
def execCld (s : State) : Host.Outcome State Fault Refusal :=
  .next (s.setFlag .df false)

/-- `FD` STD (R327). -/
def execStd (s : State) : Host.Outcome State Fault Refusal :=
  .next (s.setFlag .df true)

end Sys2Proof.Machine
end

