-- ==== Sys2Proof/Machine/Interrupt.lean ====
section
/-! DEFINITION. `INT n`: the host call of this hardware, with the INT 21h services (48_control_transfer.md R378; 60_exceptions.md R424 to R434). Nothing is pushed and no vector is read. -/

namespace Sys2Proof.Machine

/-- One byte offered to `HOST_OUT`: its answer, and the state after it (60_exceptions.md R425, R431). The answer is the next one the host gives, `ok` when none is given (D42, log 6). -/
def State.hostOutByte (s : State) (b : Byte) : OutAnswer × State :=
  match s.outAnswers with
  | [] => (.ok, { s with hostOut := s.hostOut ++ [b] })
  | .ok :: rest => (.ok, { s with hostOut := s.hostOut ++ [b], outAnswers := rest })
  | .ioError :: rest => (.ioError, { s with outAnswers := rest })

/-- No handler for `n`: the fault, with AH at the time, or nothing (60_exceptions.md R424). -/
def State.unhandled (s : State) (n : Byte) : State :=
  match s.params.unhandledInt with
  | .fault => s.raise (.unhandledInterrupt n (s.reg8 .ah))
  | .noop => s

/-- AH = 02h: DL to the host (60_exceptions.md R431). -/
def State.outputChar (s : State) : State :=
  match s.hostOutByte (s.reg8 .dl) with
  | (.ok, s1) => s1
  | (.ioError, s1) => s1.raise .ioError

/-- AH = 09h: the bytes from DS:`off` to the first 0x24, which is not sent (60_exceptions.md R432). The first argument of the recursion bounds the bytes looked at: when it is used up the loop never ends (log 7). -/
def State.outputString (s : State) : Nat → Word → Host.Outcome State Fault Refusal
  | 0, _ => .fault .outputStringNeverEnds
  | k + 1, off =>
    let a := phys (s.reg .ds) off
    let c := s.byteAt a
    let s1 := s.emit (.read a .byte)
    if c = 0x24 then .next s1
    else
      match s1.hostOutByte c with
      | (.ok, s2) => s2.outputString k (off + 1)
      | (.ioError, s2) => .next (s2.raise .ioError)

/-- No output that ends looks at more bytes than this: a byte 0x24 is met within the 65536 offsets of the segment, and a refusal within the answers given, after which every answer is ok (D42; log 7). -/
def State.outputBound (s : State) : Nat := Config.segmentOffsets + s.outAnswers.length

/-- AH = 4Ch: halt with AL as exit code (60_exceptions.md R433). -/
def State.exit (s : State) : State := { s with exitCode := some (s.reg8 .al), runState := .halted }

/-- INT 21h, by AH at the time (60_exceptions.md R430 to R434). -/
def State.int21 (s : State) : Host.Outcome State Fault Refusal :=
  if s.reg8 .ah = 0x02 then .next s.outputChar
  else if s.reg8 .ah = 0x09 then s.outputString s.outputBound (s.reg .dx)
  else if s.reg8 .ah = 0x4C then .next s.exit
  else .next (s.unhandled 0x21)

/-- One action of a host handler, through the interface of the register file and memory (70_reset_and_hazards.md R470; log 5). -/
def State.handlerAct (s : State) : HandlerAction → State
  | .writeReg r v => s.setReg r v
  | .readMem a size => s.emit (.read a size)
  | .writeByte a v => s.storeByte a v
  | .writeWord a v => s.storeWord a v

/-- A call of a host handler other than INT 21h: the next effect the host gives, or a refusal when none is given (U12; log 5). -/
def State.callHandler (s : State) (n : Byte) : Host.Outcome State Fault Refusal :=
  match s.handlerEffects with
  | [] => .refused (.handlerEffectNotGiven n)
  | e :: rest =>
    let s1 := e.actions.foldl State.handlerAct { s with handlerEffects := rest }
    .next (if e.halts then s1.halt else s1)

/-- `INT n` (48_control_transfer.md R378). -/
def State.interrupt (s : State) (n : Byte) : Host.Outcome State Fault Refusal :=
  if n = 0x21 then s.int21
  else if n ∈ s.params.intHandlers then s.callHandler n
  else .next (s.unhandled n)

/-- `CD` INT imm8 (R378). -/
def execIntImm8 (v : Byte) (s : State) : Host.Outcome State Fault Refusal :=
  s.interrupt v

end Sys2Proof.Machine
end

