-- ==== Sys2Proof/Machine/Logic.lean ====
section
/-! DEFINITION. AND, OR, XOR, TEST and NOT (44_logic.md R250 to R254), each over a shared operation of Machine/Flags.lean. -/

namespace Sys2Proof.Machine

/-- `08` OR r/m8, r8 (R251). -/
def execOrRm8R8 (d : Rm8) (r : Reg8) (s : State) : Host.Outcome State Fault Refusal :=
  .next (s.alu .or (s.place8 d) (.place (.reg8 r)))

/-- `09` OR r/m16, r16 (R251). -/
def execOrRm16R16 (d : Rm16) (r : Reg16) (s : State) : Host.Outcome State Fault Refusal :=
  .next (s.alu .or (s.place16 d) (.place (.reg (Reg16.id r))))

/-- `0A` OR r8, r/m8 (R251). -/
def execOrR8Rm8 (d : Reg8) (r : Rm8) (s : State) : Host.Outcome State Fault Refusal :=
  .next (s.alu .or (.reg8 d) (.place (s.place8 r)))

/-- `0B` OR r16, r/m16 (R251). -/
def execOrR16Rm16 (d : Reg16) (r : Rm16) (s : State) : Host.Outcome State Fault Refusal :=
  .next (s.alu .or (.reg (Reg16.id d)) (.place (s.place16 r)))

/-- `0C` OR AL, imm8 (R251). -/
def execOrAlImm8 (v : Byte) (s : State) : Host.Outcome State Fault Refusal :=
  .next (s.alu .or placeAl (.imm v))

/-- `0D` OR AX, imm16 (R251). -/
def execOrAxImm16 (v : Word) (s : State) : Host.Outcome State Fault Refusal :=
  .next (s.alu .or placeAx (.imm v))

/-- `80 /1` OR r/m8, imm8 (R251). -/
def execOrRm8Imm8 (d : Rm8) (v : Byte) (s : State) : Host.Outcome State Fault Refusal :=
  .next (s.alu .or (s.place8 d) (.imm v))

/-- `81 /1` OR r/m16, imm16 (R251). -/
def execOrRm16Imm16 (d : Rm16) (v : Word) (s : State) : Host.Outcome State Fault Refusal :=
  .next (s.alu .or (s.place16 d) (.imm v))

/-- `83 /1` OR r/m16, simm8 (R251). -/
def execOrRm16Simm8 (d : Rm16) (v : Byte) (s : State) : Host.Outcome State Fault Refusal :=
  .next (s.alu .or (s.place16 d) (.imm (sext16 v)))

/-- `20` AND r/m8, r8 (R250). -/
def execAndRm8R8 (d : Rm8) (r : Reg8) (s : State) : Host.Outcome State Fault Refusal :=
  .next (s.alu .and (s.place8 d) (.place (.reg8 r)))

/-- `21` AND r/m16, r16 (R250). -/
def execAndRm16R16 (d : Rm16) (r : Reg16) (s : State) : Host.Outcome State Fault Refusal :=
  .next (s.alu .and (s.place16 d) (.place (.reg (Reg16.id r))))

/-- `22` AND r8, r/m8 (R250). -/
def execAndR8Rm8 (d : Reg8) (r : Rm8) (s : State) : Host.Outcome State Fault Refusal :=
  .next (s.alu .and (.reg8 d) (.place (s.place8 r)))

/-- `23` AND r16, r/m16 (R250). -/
def execAndR16Rm16 (d : Reg16) (r : Rm16) (s : State) : Host.Outcome State Fault Refusal :=
  .next (s.alu .and (.reg (Reg16.id d)) (.place (s.place16 r)))

/-- `24` AND AL, imm8 (R250). -/
def execAndAlImm8 (v : Byte) (s : State) : Host.Outcome State Fault Refusal :=
  .next (s.alu .and placeAl (.imm v))

/-- `25` AND AX, imm16 (R250). -/
def execAndAxImm16 (v : Word) (s : State) : Host.Outcome State Fault Refusal :=
  .next (s.alu .and placeAx (.imm v))

/-- `80 /4` AND r/m8, imm8 (R250). -/
def execAndRm8Imm8 (d : Rm8) (v : Byte) (s : State) : Host.Outcome State Fault Refusal :=
  .next (s.alu .and (s.place8 d) (.imm v))

/-- `81 /4` AND r/m16, imm16 (R250). -/
def execAndRm16Imm16 (d : Rm16) (v : Word) (s : State) : Host.Outcome State Fault Refusal :=
  .next (s.alu .and (s.place16 d) (.imm v))

/-- `83 /4` AND r/m16, simm8 (R250). -/
def execAndRm16Simm8 (d : Rm16) (v : Byte) (s : State) : Host.Outcome State Fault Refusal :=
  .next (s.alu .and (s.place16 d) (.imm (sext16 v)))

/-- `30` XOR r/m8, r8 (R252). -/
def execXorRm8R8 (d : Rm8) (r : Reg8) (s : State) : Host.Outcome State Fault Refusal :=
  .next (s.alu .xor (s.place8 d) (.place (.reg8 r)))

/-- `31` XOR r/m16, r16 (R252). -/
def execXorRm16R16 (d : Rm16) (r : Reg16) (s : State) : Host.Outcome State Fault Refusal :=
  .next (s.alu .xor (s.place16 d) (.place (.reg (Reg16.id r))))

/-- `32` XOR r8, r/m8 (R252). -/
def execXorR8Rm8 (d : Reg8) (r : Rm8) (s : State) : Host.Outcome State Fault Refusal :=
  .next (s.alu .xor (.reg8 d) (.place (s.place8 r)))

/-- `33` XOR r16, r/m16 (R252). -/
def execXorR16Rm16 (d : Reg16) (r : Rm16) (s : State) : Host.Outcome State Fault Refusal :=
  .next (s.alu .xor (.reg (Reg16.id d)) (.place (s.place16 r)))

/-- `34` XOR AL, imm8 (R252). -/
def execXorAlImm8 (v : Byte) (s : State) : Host.Outcome State Fault Refusal :=
  .next (s.alu .xor placeAl (.imm v))

/-- `35` XOR AX, imm16 (R252). -/
def execXorAxImm16 (v : Word) (s : State) : Host.Outcome State Fault Refusal :=
  .next (s.alu .xor placeAx (.imm v))

/-- `80 /6` XOR r/m8, imm8 (R252). -/
def execXorRm8Imm8 (d : Rm8) (v : Byte) (s : State) : Host.Outcome State Fault Refusal :=
  .next (s.alu .xor (s.place8 d) (.imm v))

/-- `81 /6` XOR r/m16, imm16 (R252). -/
def execXorRm16Imm16 (d : Rm16) (v : Word) (s : State) : Host.Outcome State Fault Refusal :=
  .next (s.alu .xor (s.place16 d) (.imm v))

/-- `83 /6` XOR r/m16, simm8 (R252). -/
def execXorRm16Simm8 (d : Rm16) (v : Byte) (s : State) : Host.Outcome State Fault Refusal :=
  .next (s.alu .xor (s.place16 d) (.imm (sext16 v)))

/-- `84` TEST r/m8, r8 (R253). -/
def execTestRm8R8 (d : Rm8) (r : Reg8) (s : State) : Host.Outcome State Fault Refusal :=
  .next (s.test (s.place8 d) (.place (.reg8 r)))

/-- `85` TEST r/m16, r16 (R253). -/
def execTestRm16R16 (d : Rm16) (r : Reg16) (s : State) : Host.Outcome State Fault Refusal :=
  .next (s.test (s.place16 d) (.place (.reg (Reg16.id r))))

/-- `A8` TEST AL, imm8 (R253). -/
def execTestAlImm8 (v : Byte) (s : State) : Host.Outcome State Fault Refusal :=
  .next (s.test placeAl (.imm v))

/-- `A9` TEST AX, imm16 (R253). -/
def execTestAxImm16 (v : Word) (s : State) : Host.Outcome State Fault Refusal :=
  .next (s.test placeAx (.imm v))

/-- `F6 /0` TEST r/m8, imm8 (R253). -/
def execTestRm8Imm8 (d : Rm8) (v : Byte) (s : State) : Host.Outcome State Fault Refusal :=
  .next (s.test (s.place8 d) (.imm v))

/-- `F6 /2` NOT r/m8 (R254). -/
def execNotRm8 (r : Rm8) (s : State) : Host.Outcome State Fault Refusal :=
  .next (s.not (s.place8 r))

/-- `F7 /0` TEST r/m16, imm16 (R253). -/
def execTestRm16Imm16 (d : Rm16) (v : Word) (s : State) : Host.Outcome State Fault Refusal :=
  .next (s.test (s.place16 d) (.imm v))

/-- `F7 /2` NOT r/m16 (R254). -/
def execNotRm16 (r : Rm16) (s : State) : Host.Outcome State Fault Refusal :=
  .next (s.not (s.place16 r))

end Sys2Proof.Machine
end

