-- ==== Sys2Proof/Machine/MulDiv.lean ====
section
/-! DEFINITION. MUL, IMUL, DIV, IDIV, CBW and CWD (46_mul_div_convert.md R300 to R305). -/

namespace Sys2Proof.Machine

/-- CF and OF set alike (R300, R301); SF, ZF, AF and PF are kept (log 8). -/
def State.setCfOf (s : State) (b : Bool) : State := (s.setFlag .cf b).setFlag .of b

/-- A double word in DX:AX. -/
def State.setDxAx (s : State) (v : BitVec 32) : State :=
  (s.setReg .dx (v.extractLsb' 16 16)).setReg .ax (v.extractLsb' 0 16)

/-- DX:AX as one number of 32 bits. -/
def State.dxAx (s : State) : BitVec 32 := s.reg .dx ++ s.reg .ax

/-- MUL r/m8 (R300). -/
def State.mul8 (s : State) (p : Place 8) : State :=
  let r : Word := BitVec.ofNat 16 ((s.reg8 .al).toNat * (s.valueOf p).toNat)
  ((s.noteRead p).setReg .ax r).setCfOf (hiByte r != 0)

/-- MUL r/m16 (R300). -/
def State.mul16 (s : State) (p : Place 16) : State :=
  let r : BitVec 32 := BitVec.ofNat 32 ((s.reg .ax).toNat * (s.valueOf p).toNat)
  ((s.noteRead p).setDxAx r).setCfOf (r.extractLsb' 16 16 != 0)

/-- IMUL r/m8 (R301): CF and OF tell that the high half is not the sign extension of the low half. -/
def State.imul8 (s : State) (p : Place 8) : State :=
  let r : Word := BitVec.ofInt 16 ((s.reg8 .al).toInt * (s.valueOf p).toInt)
  ((s.noteRead p).setReg .ax r).setCfOf (r != sext16 (loByte r))

/-- IMUL r/m16 (R301). -/
def State.imul16 (s : State) (p : Place 16) : State :=
  let r : BitVec 32 := BitVec.ofInt 32 ((s.reg .ax).toInt * (s.valueOf p).toInt)
  ((s.noteRead p).setDxAx r).setCfOf (r != (r.extractLsb' 0 16).signExtend 32)

/-- DIV r/m8 (R302): the fault leaves AX as it was. -/
def State.div8 (s : State) (p : Place 8) : Host.Outcome State Fault Refusal :=
  let n := (s.reg .ax).toNat
  let d := (s.valueOf p).toNat
  let s1 := s.noteRead p
  if d = 0 then .next (s1.raise .divideError)
  else if n / d > 0xFF then .next (s1.raise .divideError)
  else .next ((s1.setReg8 .al (BitVec.ofNat 8 (n / d))).setReg8 .ah (BitVec.ofNat 8 (n % d)))

/-- DIV r/m16 (R302). -/
def State.div16 (s : State) (p : Place 16) : Host.Outcome State Fault Refusal :=
  let n := s.dxAx.toNat
  let d := (s.valueOf p).toNat
  let s1 := s.noteRead p
  if d = 0 then .next (s1.raise .divideError)
  else if n / d > 0xFFFF then .next (s1.raise .divideError)
  else .next ((s1.setReg .ax (BitVec.ofNat 16 (n / d))).setReg .dx (BitVec.ofNat 16 (n % d)))

/-- IDIV r/m8 (R303): quotient truncated toward zero, in -127 to 127; remainder with the sign of the dividend. -/
def State.idiv8 (s : State) (p : Place 8) : Host.Outcome State Fault Refusal :=
  let n := (s.reg .ax).toInt
  let d := (s.valueOf p).toInt
  let q := n.tdiv d
  let s1 := s.noteRead p
  if d = 0 then .next (s1.raise .divideError)
  else if q > 127 ∨ q < -127 then .next (s1.raise .divideError)
  else .next ((s1.setReg8 .al (BitVec.ofInt 8 q)).setReg8 .ah (BitVec.ofInt 8 (n - q * d)))

/-- IDIV r/m16 (R303). -/
def State.idiv16 (s : State) (p : Place 16) : Host.Outcome State Fault Refusal :=
  let n := s.dxAx.toInt
  let d := (s.valueOf p).toInt
  let q := n.tdiv d
  let s1 := s.noteRead p
  if d = 0 then .next (s1.raise .divideError)
  else if q > 32767 ∨ q < -32767 then .next (s1.raise .divideError)
  else .next ((s1.setReg .ax (BitVec.ofInt 16 q)).setReg .dx (BitVec.ofInt 16 (n - q * d)))

/-- `98` CBW (R304). -/
def execCbw (s : State) : Host.Outcome State Fault Refusal :=
  .next (s.setReg8 .ah (if (s.reg8 .al).msb then 0xFF else 0x00))

/-- `99` CWD (R305). -/
def execCwd (s : State) : Host.Outcome State Fault Refusal :=
  .next (s.setReg .dx (if (s.reg .ax).msb then 0xFFFF else 0x0000))

/-- `F6 /4` MUL r/m8 (R300). -/
def execMulRm8 (r : Rm8) (s : State) : Host.Outcome State Fault Refusal :=
  .next (s.mul8 (s.place8 r))

/-- `F6 /5` IMUL r/m8 (R301). -/
def execImulRm8 (r : Rm8) (s : State) : Host.Outcome State Fault Refusal :=
  .next (s.imul8 (s.place8 r))

/-- `F6 /6` DIV r/m8 (R302). -/
def execDivRm8 (r : Rm8) (s : State) : Host.Outcome State Fault Refusal :=
  s.div8 (s.place8 r)

/-- `F6 /7` IDIV r/m8 (R303). -/
def execIdivRm8 (r : Rm8) (s : State) : Host.Outcome State Fault Refusal :=
  s.idiv8 (s.place8 r)

/-- `F7 /4` MUL r/m16 (R300). -/
def execMulRm16 (r : Rm16) (s : State) : Host.Outcome State Fault Refusal :=
  .next (s.mul16 (s.place16 r))

/-- `F7 /5` IMUL r/m16 (R301). -/
def execImulRm16 (r : Rm16) (s : State) : Host.Outcome State Fault Refusal :=
  .next (s.imul16 (s.place16 r))

/-- `F7 /6` DIV r/m16 (R302). -/
def execDivRm16 (r : Rm16) (s : State) : Host.Outcome State Fault Refusal :=
  s.div16 (s.place16 r)

/-- `F7 /7` IDIV r/m16 (R303). -/
def execIdivRm16 (r : Rm16) (s : State) : Host.Outcome State Fault Refusal :=
  s.idiv16 (s.place16 r)

end Sys2Proof.Machine
end

