-- ==== Sys2Proof/Machine/ShiftRotate.lean ====
section
/-! DEFINITION. The shifts and rotates by 1 and by CL (45_shift_rotate.md R270 to R278), each over `State.shift`. -/

namespace Sys2Proof.Machine

/-- `D0 /0` ROL r/m8, 1 (R271). -/
def execRolRm8One (r : Rm8) (s : State) : Host.Outcome State Fault Refusal :=
  .next (s.shift .rol (s.place8 r) 1)

/-- `D0 /1` ROR r/m8, 1 (R272). -/
def execRorRm8One (r : Rm8) (s : State) : Host.Outcome State Fault Refusal :=
  .next (s.shift .ror (s.place8 r) 1)

/-- `D0 /2` RCL r/m8, 1 (R273). -/
def execRclRm8One (r : Rm8) (s : State) : Host.Outcome State Fault Refusal :=
  .next (s.shift .rcl (s.place8 r) 1)

/-- `D0 /3` RCR r/m8, 1 (R274). -/
def execRcrRm8One (r : Rm8) (s : State) : Host.Outcome State Fault Refusal :=
  .next (s.shift .rcr (s.place8 r) 1)

/-- `D0 /4` SHL/SAL r/m8, 1 (R275). -/
def execShlRm8One (r : Rm8) (s : State) : Host.Outcome State Fault Refusal :=
  .next (s.shift .shl (s.place8 r) 1)

/-- `D0 /5` SHR r/m8, 1 (R276). -/
def execShrRm8One (r : Rm8) (s : State) : Host.Outcome State Fault Refusal :=
  .next (s.shift .shr (s.place8 r) 1)

/-- `D0 /7` SAR r/m8, 1 (R277). -/
def execSarRm8One (r : Rm8) (s : State) : Host.Outcome State Fault Refusal :=
  .next (s.shift .sar (s.place8 r) 1)

/-- `D1 /0` ROL r/m16, 1 (R271). -/
def execRolRm16One (r : Rm16) (s : State) : Host.Outcome State Fault Refusal :=
  .next (s.shift .rol (s.place16 r) 1)

/-- `D1 /1` ROR r/m16, 1 (R272). -/
def execRorRm16One (r : Rm16) (s : State) : Host.Outcome State Fault Refusal :=
  .next (s.shift .ror (s.place16 r) 1)

/-- `D1 /2` RCL r/m16, 1 (R273). -/
def execRclRm16One (r : Rm16) (s : State) : Host.Outcome State Fault Refusal :=
  .next (s.shift .rcl (s.place16 r) 1)

/-- `D1 /3` RCR r/m16, 1 (R274). -/
def execRcrRm16One (r : Rm16) (s : State) : Host.Outcome State Fault Refusal :=
  .next (s.shift .rcr (s.place16 r) 1)

/-- `D1 /4` SHL/SAL r/m16, 1 (R275). -/
def execShlRm16One (r : Rm16) (s : State) : Host.Outcome State Fault Refusal :=
  .next (s.shift .shl (s.place16 r) 1)

/-- `D1 /5` SHR r/m16, 1 (R276). -/
def execShrRm16One (r : Rm16) (s : State) : Host.Outcome State Fault Refusal :=
  .next (s.shift .shr (s.place16 r) 1)

/-- `D1 /7` SAR r/m16, 1 (R277). -/
def execSarRm16One (r : Rm16) (s : State) : Host.Outcome State Fault Refusal :=
  .next (s.shift .sar (s.place16 r) 1)

/-- `D2 /0` ROL r/m8, CL (R271). -/
def execRolRm8Cl (r : Rm8) (s : State) : Host.Outcome State Fault Refusal :=
  .next (s.shift .rol (s.place8 r) s.clCount)

/-- `D2 /1` ROR r/m8, CL (R272). -/
def execRorRm8Cl (r : Rm8) (s : State) : Host.Outcome State Fault Refusal :=
  .next (s.shift .ror (s.place8 r) s.clCount)

/-- `D2 /2` RCL r/m8, CL (R273). -/
def execRclRm8Cl (r : Rm8) (s : State) : Host.Outcome State Fault Refusal :=
  .next (s.shift .rcl (s.place8 r) s.clCount)

/-- `D2 /3` RCR r/m8, CL (R274). -/
def execRcrRm8Cl (r : Rm8) (s : State) : Host.Outcome State Fault Refusal :=
  .next (s.shift .rcr (s.place8 r) s.clCount)

/-- `D2 /4` SHL/SAL r/m8, CL (R275). -/
def execShlRm8Cl (r : Rm8) (s : State) : Host.Outcome State Fault Refusal :=
  .next (s.shift .shl (s.place8 r) s.clCount)

/-- `D2 /5` SHR r/m8, CL (R276). -/
def execShrRm8Cl (r : Rm8) (s : State) : Host.Outcome State Fault Refusal :=
  .next (s.shift .shr (s.place8 r) s.clCount)

/-- `D2 /7` SAR r/m8, CL (R277). -/
def execSarRm8Cl (r : Rm8) (s : State) : Host.Outcome State Fault Refusal :=
  .next (s.shift .sar (s.place8 r) s.clCount)

/-- `D3 /0` ROL r/m16, CL (R271). -/
def execRolRm16Cl (r : Rm16) (s : State) : Host.Outcome State Fault Refusal :=
  .next (s.shift .rol (s.place16 r) s.clCount)

/-- `D3 /1` ROR r/m16, CL (R272). -/
def execRorRm16Cl (r : Rm16) (s : State) : Host.Outcome State Fault Refusal :=
  .next (s.shift .ror (s.place16 r) s.clCount)

/-- `D3 /2` RCL r/m16, CL (R273). -/
def execRclRm16Cl (r : Rm16) (s : State) : Host.Outcome State Fault Refusal :=
  .next (s.shift .rcl (s.place16 r) s.clCount)

/-- `D3 /3` RCR r/m16, CL (R274). -/
def execRcrRm16Cl (r : Rm16) (s : State) : Host.Outcome State Fault Refusal :=
  .next (s.shift .rcr (s.place16 r) s.clCount)

/-- `D3 /4` SHL/SAL r/m16, CL (R275). -/
def execShlRm16Cl (r : Rm16) (s : State) : Host.Outcome State Fault Refusal :=
  .next (s.shift .shl (s.place16 r) s.clCount)

/-- `D3 /5` SHR r/m16, CL (R276). -/
def execShrRm16Cl (r : Rm16) (s : State) : Host.Outcome State Fault Refusal :=
  .next (s.shift .shr (s.place16 r) s.clCount)

/-- `D3 /7` SAR r/m16, CL (R277). -/
def execSarRm16Cl (r : Rm16) (s : State) : Host.Outcome State Fault Refusal :=
  .next (s.shift .sar (s.place16 r) s.clCount)

end Sys2Proof.Machine
end

