-- ==== Sys2Proof/Machine/Strings.lean ====
section
/-! DEFINITION. The string instructions and their repetition (49_string.md R390 to R405). -/

namespace Sys2Proof.Machine

/-- `phys(DS, SI)`, the source (R390). -/
def State.stringSrc (s : State) : PAddr := phys (s.reg .ds) (s.reg .si)

/-- `phys(ES, DI)`, the destination (R390). -/
def State.stringDst (s : State) : PAddr := phys (s.reg .es) (s.reg .di)

/-- `delta`: the size when DF = 0, minus the size when DF = 1 (R390). -/
def State.stringDelta (s : State) (size : Word) : Word := if s.flag .df then -size else size

/-- SI moved by `delta` (R390). -/
def State.bumpSi (s : State) (delta : Word) : State := s.setReg .si (s.reg .si + delta)

/-- DI moved by `delta` (R390). -/
def State.bumpDi (s : State) (delta : Word) : State := s.setReg .di (s.reg .di + delta)

/-- MOVS (R391). -/
def State.movs (s : State) {n : Nat} (src dst : Place n) (delta : Word) : State :=
  ((s.move dst (.place src)).bumpSi delta).bumpDi delta

/-- STOS (R392). -/
def State.stos (s : State) {n : Nat} (acc dst : Place n) (delta : Word) : State :=
  (s.move dst (.place acc)).bumpDi delta

/-- LODS (R393). -/
def State.lods (s : State) {n : Nat} (acc src : Place n) (delta : Word) : State :=
  (s.move acc (.place src)).bumpSi delta

/-- CMPS: source minus destination (R394). -/
def State.cmps (s : State) {n : Nat} (src dst : Place n) (delta : Word) : State :=
  ((s.alu .cmp src (.place dst)).bumpSi delta).bumpDi delta

/-- SCAS: accumulator minus destination (R395). -/
def State.scas (s : State) {n : Nat} (acc dst : Place n) (delta : Word) : State :=
  (s.alu .cmp acc (.place dst)).bumpDi delta

/-- One iteration of a string instruction (R390 to R395). -/
def State.stringOnce (s : State) : StringOp → State
  | .movsb => s.movs (.byteAt s.stringSrc) (.byteAt s.stringDst) (s.stringDelta 1)
  | .movsw => s.movs (.wordAt s.stringSrc) (.wordAt s.stringDst) (s.stringDelta 2)
  | .cmpsb => s.cmps (.byteAt s.stringSrc) (.byteAt s.stringDst) (s.stringDelta 1)
  | .cmpsw => s.cmps (.wordAt s.stringSrc) (.wordAt s.stringDst) (s.stringDelta 2)
  | .stosb => s.stos placeAl (.byteAt s.stringDst) (s.stringDelta 1)
  | .stosw => s.stos placeAx (.wordAt s.stringDst) (s.stringDelta 2)
  | .lodsb => s.lods placeAl (.byteAt s.stringSrc) (s.stringDelta 1)
  | .lodsw => s.lods placeAx (.wordAt s.stringSrc) (s.stringDelta 2)
  | .scasb => s.scas placeAl (.byteAt s.stringDst) (s.stringDelta 1)
  | .scasw => s.scas placeAx (.wordAt s.stringDst) (s.stringDelta 2)

/-- The repetition: while CX is not 0, one iteration, CX decremented with no flag changed, then the test that may end it (R401). The first argument of the recursion bounds the iterations; CX itself is the bound, since every iteration lowers it by one. -/
def State.repeatWhile (s : State) (op : StringOp) (goesOn : State → Bool) : Nat → State
  | 0 => s
  | k + 1 =>
    if s.reg .cx = 0 then s
    else
      let s1 := s.stringOnce op
      let s2 := s1.setReg .cx (s1.reg .cx - 1)
      if goesOn s2 then s2.repeatWhile op goesOn k else s2

/-- After 0xF3: REP has no ZF test, REPE of a compare or scan goes on while ZF = 1 (R400, R401). -/
def repGoesOn (op : StringOp) (s : State) : Bool :=
  match op with
  | .cmpsb | .cmpsw | .scasb | .scasw => s.flag .zf
  | .movsb | .movsw | .stosb | .stosw | .lodsb | .lodsw => true

/-- After 0xF2: REPNE goes on while ZF = 0 (R401). -/
def repneGoesOn (s : State) : Bool := !s.flag .zf

/-- A compare or scan among the string instructions. -/
def CompareOp.toStringOp : CompareOp → StringOp
  | .cmpsb => .cmpsb
  | .cmpsw => .cmpsw
  | .scasb => .scasb
  | .scasw => .scasw

/-- `A4` MOVSB (R391). -/
def execMovsb (s : State) : Host.Outcome State Fault Refusal :=
  .next (s.stringOnce .movsb)

/-- `A5` MOVSW (R391). -/
def execMovsw (s : State) : Host.Outcome State Fault Refusal :=
  .next (s.stringOnce .movsw)

/-- `A6` CMPSB (R394). -/
def execCmpsb (s : State) : Host.Outcome State Fault Refusal :=
  .next (s.stringOnce .cmpsb)

/-- `A7` CMPSW (R394). -/
def execCmpsw (s : State) : Host.Outcome State Fault Refusal :=
  .next (s.stringOnce .cmpsw)

/-- `AA` STOSB (R392). -/
def execStosb (s : State) : Host.Outcome State Fault Refusal :=
  .next (s.stringOnce .stosb)

/-- `AB` STOSW (R392). -/
def execStosw (s : State) : Host.Outcome State Fault Refusal :=
  .next (s.stringOnce .stosw)

/-- `AC` LODSB (R393). -/
def execLodsb (s : State) : Host.Outcome State Fault Refusal :=
  .next (s.stringOnce .lodsb)

/-- `AD` LODSW (R393). -/
def execLodsw (s : State) : Host.Outcome State Fault Refusal :=
  .next (s.stringOnce .lodsw)

/-- `AE` SCASB (R395). -/
def execScasb (s : State) : Host.Outcome State Fault Refusal :=
  .next (s.stringOnce .scasb)

/-- `AF` SCASW (R395). -/
def execScasw (s : State) : Host.Outcome State Fault Refusal :=
  .next (s.stringOnce .scasw)

/-- `F2` REPNE/REPNZ (prefix; admitted only before A6, A7, AE, AF) (R405). -/
def execRepne (op : CompareOp) (s : State) : Host.Outcome State Fault Refusal :=
  .next (s.repeatWhile (CompareOp.toStringOp op) repneGoesOn (s.reg .cx).toNat)

/-- `F3` REP/REPE/REPZ (prefix; REP before A4, A5, AA, AB, AC, AD; REPE before A6, A7, AE, AF) (R403). -/
def execRep (op : StringOp) (s : State) : Host.Outcome State Fault Refusal :=
  .next (s.repeatWhile op (repGoesOn op) (s.reg .cx).toNat)

end Sys2Proof.Machine
end

