-- ==== Sys2Proof/Machine/Dispatch.lean ====
section
/-! DEFINITION. Which meaning each instruction has: one arm for each constructor of `Instr`. -/

namespace Sys2Proof.Machine

def exec (i : Instr) (s : State) : Host.Outcome State Fault Refusal :=
  match i with
  | .addRm8R8 d r => Sys2Proof.Machine.execAddRm8R8 d r s
  | .addRm16R16 d r => Sys2Proof.Machine.execAddRm16R16 d r s
  | .addR8Rm8 d r => Sys2Proof.Machine.execAddR8Rm8 d r s
  | .addR16Rm16 d r => Sys2Proof.Machine.execAddR16Rm16 d r s
  | .addAlImm8 v => Sys2Proof.Machine.execAddAlImm8 v s
  | .addAxImm16 v => Sys2Proof.Machine.execAddAxImm16 v s
  | .addRm8Imm8 d v => Sys2Proof.Machine.execAddRm8Imm8 d v s
  | .addRm16Imm16 d v => Sys2Proof.Machine.execAddRm16Imm16 d v s
  | .addRm16Simm8 d v => Sys2Proof.Machine.execAddRm16Simm8 d v s
  | .orRm8R8 d r => Sys2Proof.Machine.execOrRm8R8 d r s
  | .orRm16R16 d r => Sys2Proof.Machine.execOrRm16R16 d r s
  | .orR8Rm8 d r => Sys2Proof.Machine.execOrR8Rm8 d r s
  | .orR16Rm16 d r => Sys2Proof.Machine.execOrR16Rm16 d r s
  | .orAlImm8 v => Sys2Proof.Machine.execOrAlImm8 v s
  | .orAxImm16 v => Sys2Proof.Machine.execOrAxImm16 v s
  | .orRm8Imm8 d v => Sys2Proof.Machine.execOrRm8Imm8 d v s
  | .orRm16Imm16 d v => Sys2Proof.Machine.execOrRm16Imm16 d v s
  | .orRm16Simm8 d v => Sys2Proof.Machine.execOrRm16Simm8 d v s
  | .adcRm8R8 d r => Sys2Proof.Machine.execAdcRm8R8 d r s
  | .adcRm16R16 d r => Sys2Proof.Machine.execAdcRm16R16 d r s
  | .adcR8Rm8 d r => Sys2Proof.Machine.execAdcR8Rm8 d r s
  | .adcR16Rm16 d r => Sys2Proof.Machine.execAdcR16Rm16 d r s
  | .adcAlImm8 v => Sys2Proof.Machine.execAdcAlImm8 v s
  | .adcAxImm16 v => Sys2Proof.Machine.execAdcAxImm16 v s
  | .adcRm8Imm8 d v => Sys2Proof.Machine.execAdcRm8Imm8 d v s
  | .adcRm16Imm16 d v => Sys2Proof.Machine.execAdcRm16Imm16 d v s
  | .adcRm16Simm8 d v => Sys2Proof.Machine.execAdcRm16Simm8 d v s
  | .sbbRm8R8 d r => Sys2Proof.Machine.execSbbRm8R8 d r s
  | .sbbRm16R16 d r => Sys2Proof.Machine.execSbbRm16R16 d r s
  | .sbbR8Rm8 d r => Sys2Proof.Machine.execSbbR8Rm8 d r s
  | .sbbR16Rm16 d r => Sys2Proof.Machine.execSbbR16Rm16 d r s
  | .sbbAlImm8 v => Sys2Proof.Machine.execSbbAlImm8 v s
  | .sbbAxImm16 v => Sys2Proof.Machine.execSbbAxImm16 v s
  | .sbbRm8Imm8 d v => Sys2Proof.Machine.execSbbRm8Imm8 d v s
  | .sbbRm16Imm16 d v => Sys2Proof.Machine.execSbbRm16Imm16 d v s
  | .sbbRm16Simm8 d v => Sys2Proof.Machine.execSbbRm16Simm8 d v s
  | .andRm8R8 d r => Sys2Proof.Machine.execAndRm8R8 d r s
  | .andRm16R16 d r => Sys2Proof.Machine.execAndRm16R16 d r s
  | .andR8Rm8 d r => Sys2Proof.Machine.execAndR8Rm8 d r s
  | .andR16Rm16 d r => Sys2Proof.Machine.execAndR16Rm16 d r s
  | .andAlImm8 v => Sys2Proof.Machine.execAndAlImm8 v s
  | .andAxImm16 v => Sys2Proof.Machine.execAndAxImm16 v s
  | .andRm8Imm8 d v => Sys2Proof.Machine.execAndRm8Imm8 d v s
  | .andRm16Imm16 d v => Sys2Proof.Machine.execAndRm16Imm16 d v s
  | .andRm16Simm8 d v => Sys2Proof.Machine.execAndRm16Simm8 d v s
  | .subRm8R8 d r => Sys2Proof.Machine.execSubRm8R8 d r s
  | .subRm16R16 d r => Sys2Proof.Machine.execSubRm16R16 d r s
  | .subR8Rm8 d r => Sys2Proof.Machine.execSubR8Rm8 d r s
  | .subR16Rm16 d r => Sys2Proof.Machine.execSubR16Rm16 d r s
  | .subAlImm8 v => Sys2Proof.Machine.execSubAlImm8 v s
  | .subAxImm16 v => Sys2Proof.Machine.execSubAxImm16 v s
  | .subRm8Imm8 d v => Sys2Proof.Machine.execSubRm8Imm8 d v s
  | .subRm16Imm16 d v => Sys2Proof.Machine.execSubRm16Imm16 d v s
  | .subRm16Simm8 d v => Sys2Proof.Machine.execSubRm16Simm8 d v s
  | .xorRm8R8 d r => Sys2Proof.Machine.execXorRm8R8 d r s
  | .xorRm16R16 d r => Sys2Proof.Machine.execXorRm16R16 d r s
  | .xorR8Rm8 d r => Sys2Proof.Machine.execXorR8Rm8 d r s
  | .xorR16Rm16 d r => Sys2Proof.Machine.execXorR16Rm16 d r s
  | .xorAlImm8 v => Sys2Proof.Machine.execXorAlImm8 v s
  | .xorAxImm16 v => Sys2Proof.Machine.execXorAxImm16 v s
  | .xorRm8Imm8 d v => Sys2Proof.Machine.execXorRm8Imm8 d v s
  | .xorRm16Imm16 d v => Sys2Proof.Machine.execXorRm16Imm16 d v s
  | .xorRm16Simm8 d v => Sys2Proof.Machine.execXorRm16Simm8 d v s
  | .cmpRm8R8 d r => Sys2Proof.Machine.execCmpRm8R8 d r s
  | .cmpRm16R16 d r => Sys2Proof.Machine.execCmpRm16R16 d r s
  | .cmpR8Rm8 d r => Sys2Proof.Machine.execCmpR8Rm8 d r s
  | .cmpR16Rm16 d r => Sys2Proof.Machine.execCmpR16Rm16 d r s
  | .cmpAlImm8 v => Sys2Proof.Machine.execCmpAlImm8 v s
  | .cmpAxImm16 v => Sys2Proof.Machine.execCmpAxImm16 v s
  | .cmpRm8Imm8 d v => Sys2Proof.Machine.execCmpRm8Imm8 d v s
  | .cmpRm16Imm16 d v => Sys2Proof.Machine.execCmpRm16Imm16 d v s
  | .cmpRm16Simm8 d v => Sys2Proof.Machine.execCmpRm16Simm8 d v s
  | .pushEs => Sys2Proof.Machine.execPushEs s
  | .pushCs => Sys2Proof.Machine.execPushCs s
  | .pushSs => Sys2Proof.Machine.execPushSs s
  | .pushDs => Sys2Proof.Machine.execPushDs s
  | .popEs => Sys2Proof.Machine.execPopEs s
  | .popSs => Sys2Proof.Machine.execPopSs s
  | .popDs => Sys2Proof.Machine.execPopDs s
  | .incR16 r => Sys2Proof.Machine.execIncR16 r s
  | .decR16 r => Sys2Proof.Machine.execDecR16 r s
  | .pushR16 r => Sys2Proof.Machine.execPushR16 r s
  | .popR16 r => Sys2Proof.Machine.execPopR16 r s
  | .joRel8 disp => Sys2Proof.Machine.execJoRel8 disp s
  | .jnoRel8 disp => Sys2Proof.Machine.execJnoRel8 disp s
  | .jbRel8 disp => Sys2Proof.Machine.execJbRel8 disp s
  | .jnbRel8 disp => Sys2Proof.Machine.execJnbRel8 disp s
  | .jeRel8 disp => Sys2Proof.Machine.execJeRel8 disp s
  | .jneRel8 disp => Sys2Proof.Machine.execJneRel8 disp s
  | .jbeRel8 disp => Sys2Proof.Machine.execJbeRel8 disp s
  | .jaRel8 disp => Sys2Proof.Machine.execJaRel8 disp s
  | .jsRel8 disp => Sys2Proof.Machine.execJsRel8 disp s
  | .jnsRel8 disp => Sys2Proof.Machine.execJnsRel8 disp s
  | .jpRel8 disp => Sys2Proof.Machine.execJpRel8 disp s
  | .jnpRel8 disp => Sys2Proof.Machine.execJnpRel8 disp s
  | .jlRel8 disp => Sys2Proof.Machine.execJlRel8 disp s
  | .jgeRel8 disp => Sys2Proof.Machine.execJgeRel8 disp s
  | .jleRel8 disp => Sys2Proof.Machine.execJleRel8 disp s
  | .jgRel8 disp => Sys2Proof.Machine.execJgRel8 disp s
  | .testRm8R8 d r => Sys2Proof.Machine.execTestRm8R8 d r s
  | .testRm16R16 d r => Sys2Proof.Machine.execTestRm16R16 d r s
  | .movRm8R8 d r => Sys2Proof.Machine.execMovRm8R8 d r s
  | .movRm16R16 d r => Sys2Proof.Machine.execMovRm16R16 d r s
  | .movR8Rm8 d r => Sys2Proof.Machine.execMovR8Rm8 d r s
  | .movR16Rm16 d r => Sys2Proof.Machine.execMovR16Rm16 d r s
  | .movRm16Es r => Sys2Proof.Machine.execMovRm16Es r s
  | .movRm16Cs r => Sys2Proof.Machine.execMovRm16Cs r s
  | .movRm16Ss r => Sys2Proof.Machine.execMovRm16Ss r s
  | .movRm16Ds r => Sys2Proof.Machine.execMovRm16Ds r s
  | .movEsRm16 r => Sys2Proof.Machine.execMovEsRm16 r s
  | .movSsRm16 r => Sys2Proof.Machine.execMovSsRm16 r s
  | .movDsRm16 r => Sys2Proof.Machine.execMovDsRm16 r s
  | .popRm16 r => Sys2Proof.Machine.execPopRm16 r s
  | .nop => Sys2Proof.Machine.execNop s
  | .cbw => Sys2Proof.Machine.execCbw s
  | .cwd => Sys2Proof.Machine.execCwd s
  | .callFar off seg => Sys2Proof.Machine.execCallFar off seg s
  | .sahf => Sys2Proof.Machine.execSahf s
  | .lahf => Sys2Proof.Machine.execLahf s
  | .movAlMoffs off => Sys2Proof.Machine.execMovAlMoffs off s
  | .movAxMoffs off => Sys2Proof.Machine.execMovAxMoffs off s
  | .movMoffsAl off => Sys2Proof.Machine.execMovMoffsAl off s
  | .movMoffsAx off => Sys2Proof.Machine.execMovMoffsAx off s
  | .movsb => Sys2Proof.Machine.execMovsb s
  | .movsw => Sys2Proof.Machine.execMovsw s
  | .cmpsb => Sys2Proof.Machine.execCmpsb s
  | .cmpsw => Sys2Proof.Machine.execCmpsw s
  | .testAlImm8 v => Sys2Proof.Machine.execTestAlImm8 v s
  | .testAxImm16 v => Sys2Proof.Machine.execTestAxImm16 v s
  | .stosb => Sys2Proof.Machine.execStosb s
  | .stosw => Sys2Proof.Machine.execStosw s
  | .lodsb => Sys2Proof.Machine.execLodsb s
  | .lodsw => Sys2Proof.Machine.execLodsw s
  | .scasb => Sys2Proof.Machine.execScasb s
  | .scasw => Sys2Proof.Machine.execScasw s
  | .movR8Imm8 d v => Sys2Proof.Machine.execMovR8Imm8 d v s
  | .movR16Imm16 d v => Sys2Proof.Machine.execMovR16Imm16 d v s
  | .retImm16 v => Sys2Proof.Machine.execRetImm16 v s
  | .ret => Sys2Proof.Machine.execRet s
  | .retfImm16 v => Sys2Proof.Machine.execRetfImm16 v s
  | .retf => Sys2Proof.Machine.execRetf s
  | .intImm8 v => Sys2Proof.Machine.execIntImm8 v s
  | .iret => Sys2Proof.Machine.execIret s
  | .rolRm8One r => Sys2Proof.Machine.execRolRm8One r s
  | .rorRm8One r => Sys2Proof.Machine.execRorRm8One r s
  | .rclRm8One r => Sys2Proof.Machine.execRclRm8One r s
  | .rcrRm8One r => Sys2Proof.Machine.execRcrRm8One r s
  | .shlRm8One r => Sys2Proof.Machine.execShlRm8One r s
  | .shrRm8One r => Sys2Proof.Machine.execShrRm8One r s
  | .sarRm8One r => Sys2Proof.Machine.execSarRm8One r s
  | .rolRm16One r => Sys2Proof.Machine.execRolRm16One r s
  | .rorRm16One r => Sys2Proof.Machine.execRorRm16One r s
  | .rclRm16One r => Sys2Proof.Machine.execRclRm16One r s
  | .rcrRm16One r => Sys2Proof.Machine.execRcrRm16One r s
  | .shlRm16One r => Sys2Proof.Machine.execShlRm16One r s
  | .shrRm16One r => Sys2Proof.Machine.execShrRm16One r s
  | .sarRm16One r => Sys2Proof.Machine.execSarRm16One r s
  | .rolRm8Cl r => Sys2Proof.Machine.execRolRm8Cl r s
  | .rorRm8Cl r => Sys2Proof.Machine.execRorRm8Cl r s
  | .rclRm8Cl r => Sys2Proof.Machine.execRclRm8Cl r s
  | .rcrRm8Cl r => Sys2Proof.Machine.execRcrRm8Cl r s
  | .shlRm8Cl r => Sys2Proof.Machine.execShlRm8Cl r s
  | .shrRm8Cl r => Sys2Proof.Machine.execShrRm8Cl r s
  | .sarRm8Cl r => Sys2Proof.Machine.execSarRm8Cl r s
  | .rolRm16Cl r => Sys2Proof.Machine.execRolRm16Cl r s
  | .rorRm16Cl r => Sys2Proof.Machine.execRorRm16Cl r s
  | .rclRm16Cl r => Sys2Proof.Machine.execRclRm16Cl r s
  | .rcrRm16Cl r => Sys2Proof.Machine.execRcrRm16Cl r s
  | .shlRm16Cl r => Sys2Proof.Machine.execShlRm16Cl r s
  | .shrRm16Cl r => Sys2Proof.Machine.execShrRm16Cl r s
  | .sarRm16Cl r => Sys2Proof.Machine.execSarRm16Cl r s
  | .loopneRel8 disp => Sys2Proof.Machine.execLoopneRel8 disp s
  | .loopeRel8 disp => Sys2Proof.Machine.execLoopeRel8 disp s
  | .loopRel8 disp => Sys2Proof.Machine.execLoopRel8 disp s
  | .callRel16 disp => Sys2Proof.Machine.execCallRel16 disp s
  | .jmpRel16 disp => Sys2Proof.Machine.execJmpRel16 disp s
  | .jmpFar off seg => Sys2Proof.Machine.execJmpFar off seg s
  | .jmpRel8 disp => Sys2Proof.Machine.execJmpRel8 disp s
  | .repne op => Sys2Proof.Machine.execRepne op s
  | .rep op => Sys2Proof.Machine.execRep op s
  | .hlt => Sys2Proof.Machine.execHlt s
  | .testRm8Imm8 d v => Sys2Proof.Machine.execTestRm8Imm8 d v s
  | .notRm8 r => Sys2Proof.Machine.execNotRm8 r s
  | .negRm8 r => Sys2Proof.Machine.execNegRm8 r s
  | .mulRm8 r => Sys2Proof.Machine.execMulRm8 r s
  | .imulRm8 r => Sys2Proof.Machine.execImulRm8 r s
  | .divRm8 r => Sys2Proof.Machine.execDivRm8 r s
  | .idivRm8 r => Sys2Proof.Machine.execIdivRm8 r s
  | .testRm16Imm16 d v => Sys2Proof.Machine.execTestRm16Imm16 d v s
  | .notRm16 r => Sys2Proof.Machine.execNotRm16 r s
  | .negRm16 r => Sys2Proof.Machine.execNegRm16 r s
  | .mulRm16 r => Sys2Proof.Machine.execMulRm16 r s
  | .imulRm16 r => Sys2Proof.Machine.execImulRm16 r s
  | .divRm16 r => Sys2Proof.Machine.execDivRm16 r s
  | .idivRm16 r => Sys2Proof.Machine.execIdivRm16 r s
  | .clc => Sys2Proof.Machine.execClc s
  | .stc => Sys2Proof.Machine.execStc s
  | .cli => Sys2Proof.Machine.execCli s
  | .sti => Sys2Proof.Machine.execSti s
  | .cld => Sys2Proof.Machine.execCld s
  | .std => Sys2Proof.Machine.execStd s
  | .incRm8 r => Sys2Proof.Machine.execIncRm8 r s
  | .decRm8 r => Sys2Proof.Machine.execDecRm8 r s
  | .incRm16 r => Sys2Proof.Machine.execIncRm16 r s
  | .decRm16 r => Sys2Proof.Machine.execDecRm16 r s
  | .pushRm16 r => Sys2Proof.Machine.execPushRm16 r s

end Sys2Proof.Machine
end

