-- ==== Sys2Proof/Machine/Cycle.lean ====
section
/-! DEFINITION. The execution cycle: breakpoint test, fetch, decode, commit of IP, execution, end of the step (40_execution_cycle.md R140 to R160). -/

namespace Sys2Proof.Machine

/-! ## Fetch (R140, R142, R143) -/

/-- `phys(CS, IP)`, the address of the first byte of the next instruction (10_state.md R26). -/
def State.fetchAddr (s : State) : PAddr := phys (s.reg .cs) (s.reg .ip)

/-- Byte `i` of the instruction at CS:IP: the offset wraps in the code segment, then the byte is translated on its own (R143). -/
def State.fetchByte (s : State) (i : Nat) : Byte :=
  s.byteAt (phys (s.reg .cs) (s.reg .ip + BitVec.ofNat 16 i))

/-- As many bytes at CS:IP as the longest instruction has (30_encoding.md R90). Reading them has no effect and no event (R143), so fetching more than the instruction needs shows nowhere (log 16). -/
def State.fetchWindow (s : State) : List Byte := (List.range Config.maxInstrBytes).map s.fetchByte

/-- `IP <- IP + L` modulo 2^16 (R147). -/
def State.commitFetch (s : State) (len : Nat) : State := s.setReg .ip (s.reg .ip + BitVec.ofNat 16 len)

/-! ## Breakpoints (R141) -/

/-- `breakpoint_applies(f)` for `f = phys(CS, IP)`: the address is in the set and is not the one the last call returned BreakpointHit at. `bpResume` is none from the first attempt on, so the test is the same for every iteration of `run`. -/
def State.breakpointApplies (s : State) : Bool :=
  decide (s.fetchAddr ∈ s.breakpoints) && s.bpResume != some s.fetchAddr

/-- What a step that returns BreakpointHit leaves (R140 step 1). -/
def State.hitBreakpoint (s : State) : State :=
  { s with runState := .paused, bpResume := some s.fetchAddr }

/-! ## One attempt (R140) -/

/-- Steps 0 and 1: Running, the latch cleared, the execute event emitted (R140, R142). -/
def State.beginAttempt (s : State) : State :=
  { s with runState := .running, bpResume := none }.emit (.execute s.fetchAddr)

/-- Step 6: a step that neither faulted nor halted leaves the core Paused (R140, R160). -/
def State.finish (s : State) : State :=
  match s.runState with
  | .running => { s with runState := .paused }
  | .idle | .paused | .halted | .faulted => s

/-- The end of the step, on an outcome. -/
def finishOutcome : Host.Outcome State Fault Refusal → Host.Outcome State Fault Refusal
  | .next s => .next s.finish
  | .fault f => .fault f
  | .refused r => .refused r

/-- Steps 1 to 6 from the execute event on: a refused encoding faults with IP as it was (60_exceptions.md R421); an instruction runs with IP already past it (R147). -/
def State.attempt (s : State) : Host.Outcome State Fault Refusal :=
  match decode s.fetchWindow with
  | .error _ => .next (s.beginAttempt.raise .invalidOpcode)
  | .ok (i, rest) => finishOutcome (exec i (s.beginAttempt.commitFetch (Config.maxInstrBytes - rest.length)))

/-- `step()` (R140, R160, R161). In Halted and Faulted nothing changes (D26); while a call is in progress the host has no move (U21; log 3). -/
def State.cycle (s : State) : Host.Outcome State Fault Refusal :=
  match s.runState with
  | .halted | .faulted => .next s
  | .running => .refused .callInProgress
  | .idle | .paused => if s.breakpointApplies then .next s.hitBreakpoint else s.attempt

/-! ## Placing an instruction where the next step fetches it (log 14) -/

/-- The bytes stored one by one at the offsets from IP on, addressed as fetch addresses them; no event. -/
def State.placeAtFetch (s : State) : Nat → List Byte → State
  | _, [] => s
  | i, b :: bs => (s.putByte (phys (s.reg .cs) (s.reg .ip + BitVec.ofNat 16 i)) b).placeAtFetch (i + 1) bs

/-- The state made ready for a step: a core that is Halted, Faulted or in a call becomes Paused, and a breakpoint at CS:IP is the one just resumed from. A core that could step anyway is kept. -/
def State.readyToStep (s : State) : State :=
  let s1 :=
    match s.runState with
    | .idle | .paused => s
    | .running | .halted | .faulted => { s with runState := .paused, faultRecord := none, exitCode := none }
  if s1.breakpointApplies then { s1 with runState := .paused, bpResume := some s1.fetchAddr } else s1

end Sys2Proof.Machine
end

