-- ==== Sys2Proof/Machine/Step.lean ====
section
/-! DEFINITION. One step of the core, and the instruction placed for the next step. -/

namespace Sys2Proof.Machine

/-- `step()` (40_execution_cycle.md R140, R161). -/
def step (s : State) : Host.Outcome State Fault Refusal := s.cycle

/-- `s` with the instruction whose bits are `w`, numbered as spec/opcode_table.json numbers them, stored at CS:IP, and ready to step (log 12, 14). -/
def State.withFetchWord (s : State) (nbits w : Nat) : State :=
  s.readyToStep.placeAtFetch 0 (tableBytes nbits w)

end Sys2Proof.Machine
end

