-- ==== Sys2Proof/Machine/HostInterface.lean ====
section
/-! DEFINITION. What the host can do between steps (70_reset_and_hazards.md R460, R463, R470; 40_execution_cycle.md R160 to R164; 20_memory.md R80; 60_exceptions.md R441). -/

namespace Sys2Proof.Machine

/-! ## reset and load -/

/-- `reset()`: every piece of state to its reset value; `host_out` and `trace` are the host's records and stay (10_state.md R40, D38), as do the host's parameters and coming answers (R41). -/
def State.hostReset (s : State) : State :=
  { State.reset with
    hostOut := s.hostOut, trace := s.trace, params := s.params
    outAnswers := s.outAnswers, handlerEffects := s.handlerEffects }

/-- A program as `load` takes it; its symbols have no effect on the core (R463). -/
structure Program where
  code : List Byte
  data : List Byte
  entryOffset : Word
  deriving DecidableEq, Repr

/-- `write_memory(phys, bytes)`: bytes at rising physical addresses modulo 2^20, with no event (20_memory.md R80, D8). -/
def State.putBytes (s : State) (a : PAddr) : List Byte → State
  | [] => s
  | b :: bs => (s.putByte a b).putBytes (a + 1) bs

/-- `read_memory(phys, len)` (20_memory.md R80). -/
def State.readBytes (s : State) (a : PAddr) : Nat → List Byte
  | 0 => []
  | k + 1 => s.byteAt a :: s.readBytes (a + 1) k

/-- `load(program)`: code at CS:0, then data at DS:0, then IP, FLAGS and SP (R463, D27). -/
def State.load (s : State) (p : Program) : State :=
  let s1 := (s.putBytes (phys (s.reg .cs) 0) p.code).putBytes (phys (s.reg .ds) 0) p.data
  ((s1.setReg .ip p.entryOffset).setReg .flags 0).setReg .sp Config.resetSp

/-! ## Breakpoints and snapshots -/

/-- An address put into a rising list. -/
def insertRising : List PAddr → PAddr → List PAddr
  | [], f => [f]
  | g :: gs, f => if f < g then f :: g :: gs else if f = g then g :: gs else g :: insertRising gs f

/-- `add_breakpoint(phys)` (R441). -/
def State.addBreakpoint (s : State) (f : PAddr) : State :=
  { s with breakpoints := insertRising s.breakpoints f }

/-- `remove_breakpoint(phys)` (R441). -/
def State.removeBreakpoint (s : State) (f : PAddr) : State :=
  { s with breakpoints := s.breakpoints.filter (fun g => g != f) }

/-- `registers()` (R441). -/
def State.registers (s : State) : RegFile := s.regs

/-- `flags()` (R441; 10_state.md R29). -/
def State.flagsWord (s : State) : Word := s.reg .flags

/-! ## What step and run return -/

/-- `Continue | Halted | BreakpointHit | Fault(kind)` (R161). -/
inductive StepReturn where
  | continues
  | halted
  | breakpointHit
  | fault (record : Option FaultKind)
  deriving DecidableEq, Repr

/-- What the step that left this state returned: the state tells it (R140, R160). A core left Paused with the latch set was stopped by a breakpoint, since every attempt clears the latch (log 2). -/
def State.stepReturn (s : State) : StepReturn :=
  match s.runState with
  | .halted => .halted
  | .faulted => .fault s.faultRecord
  | .idle | .running | .paused => if s.bpResume.isSome then .breakpointHit else .continues

/-- How a call of `run` ends (R162). -/
inductive RunOutcome where
  | halted
  | breakpointHit
  | fault (record : Option FaultKind)
  | outOfBudget
  deriving DecidableEq, Repr

/-- The state `run` leaves, how it ended and the number of instructions retired (R162, R164). -/
structure RunResult where
  state : State
  outcome : RunOutcome
  retired : Nat
  deriving DecidableEq, Repr

/-- The loop of `run`: the budget left, the count so far (R162). -/
def runLoop : Nat → Nat → State → Host.Outcome RunResult Fault Refusal
  | 0, n, s => .next { state := { s with runState := .paused }, outcome := .outOfBudget, retired := n }
  | k + 1, n, s =>
    match step s with
    | .fault f => .fault f
    | .refused r => .refused r
    | .next t =>
      match t.stepReturn with
      | .continues => runLoop k (n + 1) t
      | .halted => .next { state := t, outcome := .halted, retired := n + 1 }
      | .breakpointHit => .next { state := t, outcome := .breakpointHit, retired := n }
      | .fault r => .next { state := t, outcome := .fault r, retired := n }

/-- `run(max_instructions)` (R160, R162; conflict C12). -/
def run (max : Nat) (s : State) : Host.Outcome RunResult Fault Refusal :=
  match s.runState with
  | .halted => .next { state := s, outcome := .halted, retired := 0 }
  | .faulted => .next { state := s, outcome := .fault s.faultRecord, retired := 0 }
  | .running => .refused .callInProgress
  | .idle | .paused => runLoop max 0 s

/-- `run_to_breakpoint()` with a bound on the instructions: `run` without the budget, so a bound that is used up is no result (R163, U20; log 17). -/
def runToBreakpoint (fuel : Nat) (s : State) : Host.Outcome (Option RunResult) Fault Refusal :=
  match run fuel s with
  | .fault f => .fault f
  | .refused r => .refused r
  | .next t => .next (if t.outcome = .outOfBudget then none else some t)

end Sys2Proof.Machine
end

