-- ==== Sys2Proof/Safety.lean ====
section
/-! DEFINITION. The terms the claims use: the invariant of the core, what counts as a good end of a run, and what an instruction leaves unchanged. -/

namespace Sys2Proof.Machine

/-- FLAGS stores only the nine meaningful bits: `FLAGS & ~0x0FD5 == 0` (10_state.md R29). -/
abbrev State.flagsReserved (s : State) : Prop := s.regs.flags &&& ~~~Config.flagsMask = 0

/-- What holds between calls: memory in its canonical form (log 15), FLAGS with its reserved bits 0 (10_state.md R29), `run_state` not Running (R35), a fault recorded exactly when the core is Faulted (R37), an exit code only when it is Halted (R38; 60_exceptions.md R433), the breakpoint latch only when it is Paused (R36), and the breakpoint list rising (log 11). -/
structure State.Inv (s : State) : Prop where
  memWf : s.mem.wf
  flagsReserved : s.flagsReserved
  notRunning : s.runState ≠ .running
  faultRecorded : s.runState = .faulted ↔ s.faultRecord.isSome = true
  exitHalted : s.exitCode.isSome = true → s.runState = .halted
  latchPaused : s.bpResume.isSome = true → s.runState = .paused
  breakpointsRising : s.breakpoints.Pairwise (fun f g => f < g)

/-- The only good end of a run (40_execution_cycle.md R165). -/
abbrev State.goodEnd (s : State) : Prop := s.runState = .halted

/-- The core can be stepped: it is Idle or Paused (40_execution_cycle.md R160). -/
abbrev State.canStep (s : State) : Prop := s.runState = .idle ∨ s.runState = .paused

/-! ## What an instruction may change -/

/-- Everything but registers, memory and trace is the same: the control loop's state (10_state.md R35 to R38) and the host's answers. -/
structure SameHost (s t : State) : Prop where
  runState : t.runState = s.runState
  breakpoints : t.breakpoints = s.breakpoints
  bpResume : t.bpResume = s.bpResume
  faultRecord : t.faultRecord = s.faultRecord
  hostOut : t.hostOut = s.hostOut
  exitCode : t.exitCode = s.exitCode
  params : t.params = s.params
  outAnswers : t.outAnswers = s.outAnswers
  handlerEffects : t.handlerEffects = s.handlerEffects

/-- What may change: whole registers, 8-bit views, flags and bytes of memory. -/
structure Footprint where
  regs : List RegId := []
  halves : List Reg8 := []
  flags : List Flag := []
  bytes : List PAddr := []

/-- Both footprints together. -/
def Footprint.and (p q : Footprint) : Footprint :=
  { regs := p.regs ++ q.regs, halves := p.halves ++ q.halves, flags := p.flags ++ q.flags, bytes := p.bytes ++ q.bytes }

/-- The addresses of the bytes of a place (20_memory.md R63, R65). -/
def Place.bytes {n : Nat} : Place n → List PAddr
  | .reg8 _ | .reg _ => []
  | .byteAt a => [a]
  | .wordAt a => [a, a + 1]

/-- What writing a place may change. -/
def Place.footprint {n : Nat} : Place n → Footprint
  | .reg8 r => { halves := [r] }
  | .reg r => { regs := [r] }
  | .byteAt a => { bytes := [a] }
  | .wordAt a => { bytes := [a, a + 1] }

/-- Nothing outside the footprint differs. FLAGS is spoken of flag by flag: it is the same word when no flag may change, and its reserved bits stay 0 (10_state.md R29). Memory keeps its canonical form (log 15). An 8-bit view outside the footprint is the same even when the other half of its register is in it (10_state.md R21). -/
structure Kept (s t : State) (f : Footprint) : Prop where
  host : SameHost s t
  regs : ∀ r, r ≠ .flags → r ∉ f.regs → (∀ h ∈ f.halves, Reg8.parent h ≠ r) → t.reg r = s.reg r
  halves : ∀ h, h ∉ f.halves → Reg8.parent h ∉ f.regs → t.reg8 h = s.reg8 h
  flags : ∀ g, g ∉ f.flags → t.flag g = s.flag g
  flagsWord : f.flags = [] → t.reg .flags = s.reg .flags
  flagsReserved : s.flagsReserved → t.flagsReserved
  bytes : ∀ a, a ∉ f.bytes → t.byteAt a = s.byteAt a
  memWf : s.mem.wf → t.mem.wf

/-- The events of reading a place (20_memory.md R62, R63, R74). -/
def Place.readEvents {n : Nat} : Place n → List Event
  | .reg8 _ | .reg _ => []
  | .byteAt a => [.read a .byte]
  | .wordAt a => [.read a .word]

/-- The events of writing a value to a place (20_memory.md R64, R65, R74). -/
def Place.writeEvents {n : Nat} (p : Place n) (v : BitVec n) : List Event :=
  match p with
  | .reg8 _ | .reg _ => []
  | .byteAt a => [.write a .byte (v.setWidth 16)]
  | .wordAt a => [.write a .word (v.setWidth 16)]

/-- The events of reading a source operand. -/
def Source.readEvents {n : Nat} : Source n → List Event
  | .place p => p.readEvents
  | .imm _ => []

/-- The six status flags (00_scope.md R12). -/
def statusFlags : List Flag := [.cf, .pf, .af, .zf, .sf, .of]

/-- The six status flags of a state are those of `x` (41_alu_flags.md R177). -/
structure HasStatus (t : State) (x : Status) : Prop where
  cf : t.flag .cf = x.cf
  pf : t.flag .pf = x.pf
  af : t.flag .af = x.af
  zf : t.flag .zf = x.zf
  sf : t.flag .sf = x.sf
  of : t.flag .of = x.of

end Sys2Proof.Machine
end

