-- ==== Sys2Proof/Certificates/Slice0/Obligations.lean ====
section
/-! DEFINITION. The statements for the provers. First the terms they share, then `def Obligations.<Name> : Prop`, in the order of OBLIGATIONS.json. -/

namespace Sys2Proof

/-! ## Terms about encodings -/

/-- The first bytes the decoder refuses (30_encoding.md R120). -/
def refusedFirstBytes : List Byte :=
  [0x0F, 0x26, 0x2E, 0x36, 0x3E, 0x27, 0x2F, 0x37, 0x3F, 0xD4, 0xD5] ++
  [0x60, 0x61, 0x62, 0x63, 0x64, 0x65, 0x66, 0x67, 0x68, 0x69, 0x6A, 0x6B, 0x6C, 0x6D, 0x6E, 0x6F] ++
  [0xC0, 0xC1, 0xC8, 0xC9, 0xD6, 0xF1, 0x82, 0x86, 0x87, 0x91, 0x92, 0x93, 0x94, 0x95, 0x96, 0x97] ++
  [0x8D, 0xC4, 0xC5, 0x9B, 0xD8, 0xD9, 0xDA, 0xDB, 0xDC, 0xDD, 0xDE, 0xDF, 0xF0, 0x9C, 0x9D, 0xC6, 0xC7] ++
  [0xCC, 0xCE, 0xD7, 0xE3, 0xE4, 0xE5, 0xE6, 0xE7, 0xEC, 0xED, 0xEE, 0xEF, 0xF5]

/-- The opcodes that have a refused ModR/M reg field, each with the refused values (30_encoding.md R121). -/
def refusedExtensions : List (Byte × List (BitVec 3)) :=
  [(0x8C, [4, 5, 6, 7]), (0x8E, [1, 4, 5, 6, 7]), (0x8F, [1, 2, 3, 4, 5, 6, 7]),
   (0xD0, [6]), (0xD1, [6]), (0xD2, [6]), (0xD3, [6]), (0xF6, [1]), (0xF7, [1]),
   (0xFE, [2, 3, 4, 5, 6, 7]), (0xFF, [2, 3, 4, 5, 7])]

end Sys2Proof

namespace Sys2Proof.Machine

/-! ## Terms about one instruction -/

/-- The number of 1 bits among bits 7:0 is even (41_alu_flags.md R171). -/
def EvenParity {n : Nat} (v : BitVec n) : Prop :=
  ((v.getLsbD 0 ^^ v.getLsbD 1) ^^ (v.getLsbD 2 ^^ v.getLsbD 3) ^^ (v.getLsbD 4 ^^ v.getLsbD 5) ^^
    (v.getLsbD 6 ^^ v.getLsbD 7)) = false

/-- `(r, x)` is the outcome of `ADD_N(a, b, c)` (41_alu_flags.md R172). -/
structure AddRule (n : Nat) (a b : BitVec n) (c : Bool) (r : BitVec n) (x : Status) : Prop where
  result : r.toNat = (a.toNat + b.toNat + c.toNat) % 2 ^ n
  cf : x.cf = true ↔ a.toNat + b.toNat + c.toNat ≥ 2 ^ n
  zf : x.zf = true ↔ r.toNat = 0
  sf : x.sf = r.msb
  of : x.of = true ↔ a.msb = b.msb ∧ r.msb ≠ a.msb
  pf : x.pf = true ↔ EvenParity r
  af : x.af = true ↔ a.toNat % 16 + b.toNat % 16 + c.toNat > 15

/-- `(r, x)` is the outcome of `SUB_N(a, b, c)` (41_alu_flags.md R173). -/
structure SubRule (n : Nat) (a b : BitVec n) (c : Bool) (r : BitVec n) (x : Status) : Prop where
  result : (r.toNat : Int) = ((a.toNat : Int) - b.toNat - c.toNat) % 2 ^ n
  cf : x.cf = true ↔ b.toNat + c.toNat > a.toNat
  zf : x.zf = true ↔ r.toNat = 0
  sf : x.sf = r.msb
  of : x.of = true ↔ a.msb ≠ b.msb ∧ r.msb ≠ a.msb
  pf : x.pf = true ↔ EvenParity r
  af : x.af = true ↔ b.toNat % 16 + c.toNat > a.toNat % 16

/-- `x` is the outcome of `LOGIC_N(r)` (41_alu_flags.md R174). -/
structure LogicRule (n : Nat) (r : BitVec n) (x : Status) : Prop where
  cf : x.cf = false
  of : x.of = false
  af : x.af = false
  zf : x.zf = true ↔ r.toNat = 0
  sf : x.sf = r.msb
  pf : x.pf = true ↔ EvenParity r

/-- The nine forms of one ALU operation (43_arithmetic.md R220). -/
structure AluForms where
  rm8R8 : Rm8 → Reg8 → Instr
  rm16R16 : Rm16 → Reg16 → Instr
  r8Rm8 : Reg8 → Rm8 → Instr
  r16Rm16 : Reg16 → Rm16 → Instr
  alImm8 : Byte → Instr
  axImm16 : Word → Instr
  rm8Imm8 : Rm8 → Byte → Instr
  rm16Imm16 : Rm16 → Word → Instr
  rm16Simm8 : Rm16 → Byte → Instr

/-- What is said of an instruction with a destination place and a source, for every start state. -/
abbrev BinaryClaim := (n : Nat) → Instr → (State → Place n) → (State → Source n) → Prop

/-- A claim holds of all nine forms, with dst and src as the table of 43_arithmetic.md R220 gives them. -/
def AluForms.All (f : AluForms) (P : BinaryClaim) : Prop :=
  (∀ d r, P 8 (f.rm8R8 d r) (fun s => s.place8 d) (fun _ => .place (.reg8 r))) ∧
  (∀ d r, P 16 (f.rm16R16 d r) (fun s => s.place16 d) (fun _ => .place (.reg (Reg16.id r)))) ∧
  (∀ d r, P 8 (f.r8Rm8 d r) (fun _ => .reg8 d) (fun s => .place (s.place8 r))) ∧
  (∀ d r, P 16 (f.r16Rm16 d r) (fun _ => .reg (Reg16.id d)) (fun s => .place (s.place16 r))) ∧
  (∀ v, P 8 (f.alImm8 v) (fun _ => .reg8 .al) (fun _ => .imm v)) ∧
  (∀ v, P 16 (f.axImm16 v) (fun _ => .reg .ax) (fun _ => .imm v)) ∧
  (∀ d v, P 8 (f.rm8Imm8 d v) (fun s => s.place8 d) (fun _ => .imm v)) ∧
  (∀ d v, P 16 (f.rm16Imm16 d v) (fun s => s.place16 d) (fun _ => .imm v)) ∧
  (∀ d v, P 16 (f.rm16Simm8 d v) (fun s => s.place16 d) (fun _ => .imm (v.signExtend 16)))

def addForms : AluForms :=
  ⟨.addRm8R8, .addRm16R16, .addR8Rm8, .addR16Rm16, .addAlImm8, .addAxImm16, .addRm8Imm8, .addRm16Imm16, .addRm16Simm8⟩
def orForms : AluForms :=
  ⟨.orRm8R8, .orRm16R16, .orR8Rm8, .orR16Rm16, .orAlImm8, .orAxImm16, .orRm8Imm8, .orRm16Imm16, .orRm16Simm8⟩
def adcForms : AluForms :=
  ⟨.adcRm8R8, .adcRm16R16, .adcR8Rm8, .adcR16Rm16, .adcAlImm8, .adcAxImm16, .adcRm8Imm8, .adcRm16Imm16, .adcRm16Simm8⟩
def sbbForms : AluForms :=
  ⟨.sbbRm8R8, .sbbRm16R16, .sbbR8Rm8, .sbbR16Rm16, .sbbAlImm8, .sbbAxImm16, .sbbRm8Imm8, .sbbRm16Imm16, .sbbRm16Simm8⟩
def andForms : AluForms :=
  ⟨.andRm8R8, .andRm16R16, .andR8Rm8, .andR16Rm16, .andAlImm8, .andAxImm16, .andRm8Imm8, .andRm16Imm16, .andRm16Simm8⟩
def subForms : AluForms :=
  ⟨.subRm8R8, .subRm16R16, .subR8Rm8, .subR16Rm16, .subAlImm8, .subAxImm16, .subRm8Imm8, .subRm16Imm16, .subRm16Simm8⟩
def xorForms : AluForms :=
  ⟨.xorRm8R8, .xorRm16R16, .xorR8Rm8, .xorR16Rm16, .xorAlImm8, .xorAxImm16, .xorRm8Imm8, .xorRm16Imm16, .xorRm16Simm8⟩
def cmpForms : AluForms :=
  ⟨.cmpRm8R8, .cmpRm16R16, .cmpR8Rm8, .cmpR16Rm16, .cmpAlImm8, .cmpAxImm16, .cmpRm8Imm8, .cmpRm16Imm16, .cmpRm16Simm8⟩

/-- A rule that gives result and flags from both operands and CF before. -/
abbrev AluRule := (n : Nat) → BitVec n → BitVec n → Bool → BitVec n → Status → Prop

/-- The instruction completes from every state: it reads a from dst and b from src, writes the rule's result to dst and the six status flags, and changes nothing else; the reads come before the write in the trace (43_arithmetic.md R220; 40_execution_cycle.md R152). -/
def WritesResult (rule : AluRule) : BinaryClaim := fun n i dst src =>
  ∀ s : State, ∃ t r x, exec i s = .next t ∧
    rule n (s.valueOf (dst s)) ((src s).value s) (s.flag .cf) r x ∧
    t.valueOf (dst s) = r ∧ HasStatus t x ∧
    Kept s t ((dst s).footprint.and { flags := statusFlags }) ∧
    t.trace = s.trace ++ (dst s).readEvents ++ (src s).readEvents ++ (dst s).writeEvents r

/-- The same with the result discarded: only the six status flags change (43_arithmetic.md R225; 44_logic.md R253). -/
def WritesFlagsOnly (rule : AluRule) : BinaryClaim := fun n i dst src =>
  ∀ s : State, ∃ t r x, exec i s = .next t ∧
    rule n (s.valueOf (dst s)) ((src s).value s) (s.flag .cf) r x ∧ HasStatus t x ∧
    Kept s t { flags := statusFlags } ∧
    t.trace = s.trace ++ (dst s).readEvents ++ (src s).readEvents

/-- The instruction completes from every state: it reads the source, writes it to the destination and changes nothing else (42_data_transfer.md R190 to R196, R203). -/
def Copies : BinaryClaim := fun _ i dst src =>
  ∀ s : State, ∃ t, exec i s = .next t ∧ t.valueOf (dst s) = (src s).value s ∧ Kept s t (dst s).footprint ∧
    t.trace = s.trace ++ (src s).readEvents ++ (dst s).writeEvents ((src s).value s)

/-- PUSH of the word at a place, read before SP changes (20_memory.md R70; 42_data_transfer.md R197 to R199). -/
def Pushes (i : Instr) (src : State → Place 16) : Prop :=
  ∀ s : State, ∃ t, exec i s = .next t ∧
    t.reg .sp = s.reg .sp - 2 ∧
    t.wordAt (phys (s.reg .ss) (s.reg .sp - 2)) = s.valueOf (src s) ∧
    Kept s t { regs := [.sp], bytes := [phys (s.reg .ss) (s.reg .sp - 2), phys (s.reg .ss) (s.reg .sp - 2) + 1] } ∧
    t.trace = s.trace ++ (src s).readEvents ++ [.write (phys (s.reg .ss) (s.reg .sp - 2)) .word (s.valueOf (src s))]

/-- POP to a place whose address was fixed before SP changes: the destination ends with the popped word, SP raised by 2 unless SP is the destination (20_memory.md R71; 42_data_transfer.md R200 to R202). -/
def Pops (i : Instr) (dst : State → Place 16) : Prop :=
  ∀ s : State, ∃ t, exec i s = .next t ∧
    t.valueOf (dst s) = s.wordAt (phys (s.reg .ss) (s.reg .sp)) ∧
    (dst s ≠ .reg .sp → t.reg .sp = s.reg .sp + 2) ∧
    Kept s t (Footprint.and { regs := [.sp] } (dst s).footprint) ∧
    t.trace = s.trace ++ [.read (phys (s.reg .ss) (s.reg .sp)) .word] ++
      (dst s).writeEvents (s.wordAt (phys (s.reg .ss) (s.reg .sp)))

/-- INC or DEC of a place: the rule with operand 1, five flags written and CF kept (41_alu_flags.md R175). -/
def StepsByOne (rule : AluRule) (n : Nat) (i : Instr) (p : State → Place n) : Prop :=
  ∀ s : State, ∃ t r x, exec i s = .next t ∧ rule n (s.valueOf (p s)) 1 false r x ∧
    t.valueOf (p s) = r ∧ HasStatus t { x with cf := s.flag .cf } ∧
    Kept s t ((p s).footprint.and { flags := [.pf, .af, .zf, .sf, .of] }) ∧
    t.trace = s.trace ++ (p s).readEvents ++ (p s).writeEvents r

/-- The four forms of one shift or rotate (45_shift_rotate.md R270). -/
structure ShiftForms where
  rm8One : Rm8 → Instr
  rm16One : Rm16 → Instr
  rm8Cl : Rm8 → Instr
  rm16Cl : Rm16 → Instr

/-- A claim holds of the four forms, with operand and count as 45_shift_rotate.md R270 gives them: 1, or all eight bits of CL. -/
def ShiftForms.All (f : ShiftForms) (P : (n : Nat) → Instr → (State → Place n) → (State → Nat) → Prop) : Prop :=
  (∀ o, P 8 (f.rm8One o) (fun s => s.place8 o) (fun _ => 1)) ∧
  (∀ o, P 16 (f.rm16One o) (fun s => s.place16 o) (fun _ => 1)) ∧
  (∀ o, P 8 (f.rm8Cl o) (fun s => s.place8 o) (fun s => (s.reg8 .cl).toNat)) ∧
  (∀ o, P 16 (f.rm16Cl o) (fun s => s.place16 o) (fun s => (s.reg8 .cl).toNat))

def rolForms : ShiftForms := ⟨.rolRm8One, .rolRm16One, .rolRm8Cl, .rolRm16Cl⟩
def rorForms : ShiftForms := ⟨.rorRm8One, .rorRm16One, .rorRm8Cl, .rorRm16Cl⟩
def rclForms : ShiftForms := ⟨.rclRm8One, .rclRm16One, .rclRm8Cl, .rclRm16Cl⟩
def rcrForms : ShiftForms := ⟨.rcrRm8One, .rcrRm16One, .rcrRm8Cl, .rcrRm16Cl⟩
def shlForms : ShiftForms := ⟨.shlRm8One, .shlRm16One, .shlRm8Cl, .shlRm16Cl⟩
def shrForms : ShiftForms := ⟨.shrRm8One, .shrRm16One, .shrRm8Cl, .shrRm16Cl⟩
def sarForms : ShiftForms := ⟨.sarRm8One, .sarRm16One, .sarRm8Cl, .sarRm16Cl⟩

/-- The closed form of a shift or rotate: operand, CF before and count give result and CF after. -/
abbrev ShiftRule := (n : Nat) → BitVec n → Bool → Nat → BitVec n → Bool → Prop

/-- OF after a count of 1, from the operand, CF before, the result and CF after. -/
abbrev ShiftOverflow := (n : Nat) → BitVec n → Bool → BitVec n → Bool → Bool

/-- The flags a shift or rotate may change, by its count (10_state.md R28; 45_shift_rotate.md R270). -/
def shiftFlags (arithmetic : Bool) (count : Nat) : List Flag :=
  if count = 0 then []
  else [.cf] ++ (if count = 1 then [.of] else []) ++ (if arithmetic then [.zf, .sf, .pf] else [])

/-- The instruction completes from every state and every count: result and CF by the rule, OF only for a count of 1, ZF, SF and PF only of a shift with a count other than 0, the operand read and written back also for a count of 0, nothing else changed (45_shift_rotate.md R270). -/
def Shifts (rule : ShiftRule) (overflow : ShiftOverflow) (arithmetic : Bool) :
    (n : Nat) → Instr → (State → Place n) → (State → Nat) → Prop := fun n i p count =>
  ∀ s : State, ∃ t r d, exec i s = .next t ∧
    rule n (s.valueOf (p s)) (s.flag .cf) (count s) r d ∧
    t.valueOf (p s) = r ∧ t.flag .cf = d ∧
    (count s = 1 → t.flag .of = overflow n (s.valueOf (p s)) (s.flag .cf) r d) ∧
    (arithmetic = true → count s ≠ 0 →
      (t.flag .zf = true ↔ r.toNat = 0) ∧ t.flag .sf = r.msb ∧ (t.flag .pf = true ↔ EvenParity r)) ∧
    Kept s t ((p s).footprint.and { flags := shiftFlags arithmetic (count s) }) ∧
    t.trace = s.trace ++ (p s).readEvents ++ (p s).writeEvents r

/-- The step of an instruction that raised a fault: the core is Faulted with the kind recorded; registers, memory, host output and the rest are as before, and `events` were emitted (60_exceptions.md R421 to R425). That this is a next state is the model's form (log 1). -/
structure FaultedWith (s t : State) (k : FaultKind) (events : List Event) : Prop where
  runState : t.runState = .faulted
  record : t.faultRecord = some k
  regs : ∀ r, t.reg r = s.reg r
  bytes : ∀ a, t.byteAt a = s.byteAt a
  trace : t.trace = s.trace ++ events
  hostOut : t.hostOut = s.hostOut
  exitCode : t.exitCode = s.exitCode
  breakpoints : t.breakpoints = s.breakpoints
  params : t.params = s.params
  handlerEffects : t.handlerEffects = s.handlerEffects

/-- A conditional jump: taken exactly when the condition holds, and nothing but IP may change (48_control_transfer.md R344). -/
def JumpsWhen (i : Byte → Instr) (holds : State → Bool) : Prop :=
  ∀ (disp : Byte) (s : State), ∃ t, exec (i disp) s = .next t ∧
    t.reg .ip = (if holds s then s.reg .ip + disp.signExtend 16 else s.reg .ip) ∧
    Kept s t { regs := [.ip] } ∧ t.trace = s.trace

/-- LOOP and its two companions (48_control_transfer.md R361 to R363). -/
def LoopsWhen (i : Byte → Instr) (extra : State → Bool) : Prop :=
  ∀ (disp : Byte) (s : State), ∃ t, exec (i disp) s = .next t ∧
    t.reg .cx = s.reg .cx - 1 ∧
    t.reg .ip = (if s.reg .cx ≠ 1 ∧ extra s = true then s.reg .ip + disp.signExtend 16 else s.reg .ip) ∧
    Kept s t { regs := [.cx, .ip] } ∧ t.trace = s.trace

/-! ## Terms about strings -/

/-- `delta` of a string instruction (49_string.md R390). -/
def pointerStep (s : State) (size : Word) : Word := if s.flag .df = true then 0 - size else size

/-- A string instruction that moves one element from `src` to `dst` and the pointers `ptrs` by `delta` (49_string.md R391 to R393). -/
def MovesElement {n : Nat} (i : Instr) (dst src : State → Place n) (size : Word) (ptrs : List RegId) : Prop :=
  ∀ s : State, ∃ t, exec i s = .next t ∧ t.valueOf (dst s) = s.valueOf (src s) ∧
    (∀ p ∈ ptrs, t.reg p = s.reg p + pointerStep s size) ∧
    Kept s t (Footprint.and { regs := ptrs } (dst s).footprint) ∧
    t.trace = s.trace ++ (src s).readEvents ++ (dst s).writeEvents (s.valueOf (src s))

/-- A string instruction that compares two elements: the flags of `a - b`, and the pointers moved (49_string.md R394, R395). -/
def ComparesElements {n : Nat} (i : Instr) (a b : State → Place n) (size : Word) (ptrs : List RegId) : Prop :=
  ∀ s : State, ∃ t r x, exec i s = .next t ∧ SubRule n (s.valueOf (a s)) (s.valueOf (b s)) false r x ∧ HasStatus t x ∧
    (∀ p ∈ ptrs, t.reg p = s.reg p + pointerStep s size) ∧
    Kept s t { regs := ptrs, flags := statusFlags } ∧
    t.trace = s.trace ++ (a s).readEvents ++ (b s).readEvents

/-- The string instruction without a prefix. -/
def plainString : StringOp → Instr
  | .movsb => .movsb
  | .movsw => .movsw
  | .cmpsb => .cmpsb
  | .cmpsw => .cmpsw
  | .stosb => .stosb
  | .stosw => .stosw
  | .lodsb => .lodsb
  | .lodsw => .lodsw
  | .scasb => .scasb
  | .scasw => .scasw

/-- Whether a string instruction compares, so that 0xF3 before it is REPE (49_string.md R400). -/
def comparesString : StringOp → Bool
  | .cmpsb | .cmpsw | .scasb | .scasw => true
  | .movsb | .movsw | .stosb | .stosw | .lodsb | .lodsw => false

/-- The state after `k` iterations, CX decremented after each (49_string.md R401). -/
def afterIterations (op : StringOp) : Nat → State → State
  | 0, s => s
  | k + 1, s =>
    let u := (afterIterations op k s).stringOnce op
    u.setReg .cx (u.reg .cx - 1)

/-- The repetition stops after `k` iterations, by 49_string.md R401: CX is used up, or ZF has the value that ends it for the first time. -/
def StopsAfter (op : StringOp) (goesOn : State → Bool) (s : State) (k : Nat) : Prop :=
  k ≤ (s.reg .cx).toNat ∧
  (∀ j, 0 < j → j < k → goesOn (afterIterations op j s) = true) ∧
  (k < (s.reg .cx).toNat → 0 < k ∧ goesOn (afterIterations op k s) = false)

/-- The address of element `k` of a byte string that starts at `seg:off` (49_string.md R390). -/
def elementAddr (s : State) (seg : RegId) (off : Word) (k : Nat) : PAddr :=
  phys (s.reg seg) (off + BitVec.ofNat 16 k * pointerStep s 1)

/-! ## Terms about the whole machine -/

/-- The byte an image of bytes, laid from `base` on, puts at `a`: of bytes that fall on the same address the last one stays (70_reset_and_hazards.md R463). -/
def imageByte (base : PAddr) (image : List Byte) (a : PAddr) : Option Byte :=
  (List.range image.length).foldl
    (fun found i => if base + BitVec.ofNat 20 i = a then image[i]? else found) none

/-- The instructions that write a flag (10_state.md R28). DIV and IDIV are none of them by decision D9 (log 8), NOT by decision D12. -/
def writesFlags : Instr → Bool
  | .addRm8R8 _ _ | .addRm16R16 _ _ | .addR8Rm8 _ _ | .addR16Rm16 _ _ | .addAlImm8 _ | .addAxImm16 _
  | .addRm8Imm8 _ _ | .addRm16Imm16 _ _ | .addRm16Simm8 _ _
  | .orRm8R8 _ _ | .orRm16R16 _ _ | .orR8Rm8 _ _ | .orR16Rm16 _ _ | .orAlImm8 _ | .orAxImm16 _
  | .orRm8Imm8 _ _ | .orRm16Imm16 _ _ | .orRm16Simm8 _ _
  | .adcRm8R8 _ _ | .adcRm16R16 _ _ | .adcR8Rm8 _ _ | .adcR16Rm16 _ _ | .adcAlImm8 _ | .adcAxImm16 _
  | .adcRm8Imm8 _ _ | .adcRm16Imm16 _ _ | .adcRm16Simm8 _ _
  | .sbbRm8R8 _ _ | .sbbRm16R16 _ _ | .sbbR8Rm8 _ _ | .sbbR16Rm16 _ _ | .sbbAlImm8 _ | .sbbAxImm16 _
  | .sbbRm8Imm8 _ _ | .sbbRm16Imm16 _ _ | .sbbRm16Simm8 _ _
  | .andRm8R8 _ _ | .andRm16R16 _ _ | .andR8Rm8 _ _ | .andR16Rm16 _ _ | .andAlImm8 _ | .andAxImm16 _
  | .andRm8Imm8 _ _ | .andRm16Imm16 _ _ | .andRm16Simm8 _ _
  | .subRm8R8 _ _ | .subRm16R16 _ _ | .subR8Rm8 _ _ | .subR16Rm16 _ _ | .subAlImm8 _ | .subAxImm16 _
  | .subRm8Imm8 _ _ | .subRm16Imm16 _ _ | .subRm16Simm8 _ _
  | .xorRm8R8 _ _ | .xorRm16R16 _ _ | .xorR8Rm8 _ _ | .xorR16Rm16 _ _ | .xorAlImm8 _ | .xorAxImm16 _
  | .xorRm8Imm8 _ _ | .xorRm16Imm16 _ _ | .xorRm16Simm8 _ _
  | .cmpRm8R8 _ _ | .cmpRm16R16 _ _ | .cmpR8Rm8 _ _ | .cmpR16Rm16 _ _ | .cmpAlImm8 _ | .cmpAxImm16 _
  | .cmpRm8Imm8 _ _ | .cmpRm16Imm16 _ _ | .cmpRm16Simm8 _ _
  | .testRm8R8 _ _ | .testRm16R16 _ _ | .testAlImm8 _ | .testAxImm16 _ | .testRm8Imm8 _ _ | .testRm16Imm16 _ _
  | .incR16 _ | .decR16 _ | .incRm8 _ | .decRm8 _ | .incRm16 _ | .decRm16 _ | .negRm8 _ | .negRm16 _
  | .rolRm8One _ | .rorRm8One _ | .rclRm8One _ | .rcrRm8One _ | .shlRm8One _ | .shrRm8One _ | .sarRm8One _
  | .rolRm16One _ | .rorRm16One _ | .rclRm16One _ | .rcrRm16One _ | .shlRm16One _ | .shrRm16One _ | .sarRm16One _
  | .rolRm8Cl _ | .rorRm8Cl _ | .rclRm8Cl _ | .rcrRm8Cl _ | .shlRm8Cl _ | .shrRm8Cl _ | .sarRm8Cl _
  | .rolRm16Cl _ | .rorRm16Cl _ | .rclRm16Cl _ | .rcrRm16Cl _ | .shlRm16Cl _ | .shrRm16Cl _ | .sarRm16Cl _
  | .mulRm8 _ | .mulRm16 _ | .imulRm8 _ | .imulRm16 _
  | .sahf | .clc | .stc | .cli | .sti | .cld | .std | .iret
  | .cmpsb | .cmpsw | .scasb | .scasw | .repne _
  | .rep .cmpsb | .rep .cmpsw | .rep .scasb | .rep .scasw => true
  | _ => false

/-- The instructions that may write a segment register (10_state.md R31). -/
def writesSegment : RegId → Instr → Bool
  | .cs, .jmpFar _ _ | .cs, .callFar _ _ | .cs, .retf | .cs, .retfImm16 _ | .cs, .iret => true
  | .ds, .movDsRm16 _ | .ds, .popDs => true
  | .es, .movEsRm16 _ | .es, .popEs => true
  | .ss, .movSsRm16 _ | .ss, .popSs => true
  | _, _ => false

/-- What each action of a host handler does, through the interface of the register file and memory (70_reset_and_hazards.md R470; 20_memory.md R62 to R65): a register written, FLAGS through its mask, a read that only shows in the trace, a byte or a word written with its event. That a handler acts by these four is the model's choice (log 5). -/
def ActsAs (s t : State) : HandlerAction → Prop
  | .writeReg r v => t.reg r = (if r = .flags then v &&& 0x0FD5 else v) ∧ (∀ q, q ≠ r → t.reg q = s.reg q) ∧
      (∀ a, t.byteAt a = s.byteAt a) ∧ SameHost s t ∧ t.trace = s.trace
  | .readMem a size => t = { s with trace := s.trace ++ [.read a size] }
  | .writeByte a v => t.byteAt a = v ∧ (∀ b, b ≠ a → t.byteAt b = s.byteAt b) ∧ (∀ q, t.reg q = s.reg q) ∧
      SameHost s t ∧ t.trace = s.trace ++ [.write a .byte (v.setWidth 16)]
  | .writeWord a v => t.wordAt a = v ∧ (∀ b, b ≠ a → b ≠ a + 1 → t.byteAt b = s.byteAt b) ∧ (∀ q, t.reg q = s.reg q) ∧
      SameHost s t ∧ t.trace = s.trace ++ [.write a .word v]

/-- The instruction calls no host handler but that of INT 21h (93_implementation_defined.md U12). -/
def NoHostHandler (i : Instr) (s : State) : Prop :=
  ∀ n, i = .intImm8 n → n = 0x21 ∨ n ∉ s.params.intHandlers

/-- The two outcomes are of one kind, with related states or the same reason. -/
def OutcomesRelated (R : State → State → Prop) : Host.Outcome State Fault Refusal → Host.Outcome State Fault Refusal → Prop
  | .next s, .next t => R s t
  | .fault f, .fault g => f = g
  | .refused f, .refused g => f = g
  | _, _ => False

/-- The states differ at most in FLAGS bits 8 and 9, TF and IF (10_state.md R27). -/
def AgreeButTrapAndInterrupt (s t : State) : Prop :=
  t = { s with regs := { s.regs with flags := t.regs.flags } } ∧ t.regs.flags &&& ~~~0x0300 = s.regs.flags &&& ~~~0x0300

/-- The states differ at most in the trace. -/
def AgreeButTrace (s t : State) : Prop := t = { s with trace := t.trace }

/-- The number of instructions retired raised by `k`. -/
def RunResult.more (k : Nat) (r : RunResult) : RunResult := { r with retired := k + r.retired }

end Sys2Proof.Machine

section Statements

open Sys2Proof Sys2Proof.Machine

/-! ## Encoding -/

/-- Words written out from the spec's encodings decode to the instructions they stand for (30_encoding.md R101, R123; the examples of files 42 to 49). The encodings of R101, R93, R95 and R123 are marked by the spec as general knowledge. -/
def Obligations.SampleWordsDecode : Prop :=
  decode [0x89, 0xD8] = .ok (.movRm16R16 (.reg .ax) .bx, []) ∧
  decode [0x8A, 0x07] = .ok (.movR8Rm8 .al (.mem (.noDisp .bx)), []) ∧
  decode [0x81, 0x86, 0x34, 0x12, 0x78, 0x56] = .ok (.addRm16Imm16 (.mem (.disp16 .bp 0x1234)) 0x5678, []) ∧
  decode [0x83, 0xE0, 0xF0] = .ok (.andRm16Simm8 (.reg .ax) 0xF0, []) ∧
  decode [0x8F, 0x06, 0x04, 0x00] = .ok (.popRm16 (.mem (.direct 4)), []) ∧
  decode [0xD3, 0xE0] = .ok (.shlRm16Cl (.reg .ax), []) ∧
  decode [0xF6, 0xF3] = .ok (.divRm8 (.reg .bl), []) ∧
  decode [0x75, 0xFB] = .ok (.jneRel8 0xFB, []) ∧
  decode [0xEA, 0x00, 0x00, 0x10, 0x00] = .ok (.jmpFar 0 0x10, []) ∧
  decode [0xF3, 0xA4] = .ok (.rep .movsb, []) ∧
  decode [0xF2, 0xAE] = .ok (.repne .scasb, []) ∧
  decode [0xCD, 0x21] = .ok (.intImm8 0x21, [])

/-- The decoder reads back what the encoder wrote, every operand at every value the encoding admits, and leaves the bytes after it. The layouts of R92, R94 and R95 are marked by the spec as general knowledge. -/
def Obligations.DecodeReadsBackEncode : Prop :=
  ∀ (i : Instr) (rest : List Byte), WellFormed i → decode (encode i ++ rest) = .ok (i, rest)

/-- Each sequence of bytes has one meaning: what the decoder reads is well formed, and encoding it gives exactly the bytes it used. The opcode map R101 is marked by the spec as general knowledge. -/
def Obligations.EncodeGivesDecodedBytes : Prop :=
  ∀ (bs : List Byte) (i : Instr) (rest : List Byte), decode bs = .ok (i, rest) → WellFormed i ∧ encode i ++ rest = bs

/-- The refused first bytes are exactly those of the table of 30_encoding.md R120: each is refused whatever follows, and every other byte begins an instruction. The table is the spec's decision D1, with D2, D3, D30 and D39 for single rows, and the map R101 is marked as general knowledge. -/
def Obligations.RefusedFirstBytesAreTheTable : Prop :=
  (∀ b ∈ refusedFirstBytes, ∀ bs, decode (b :: bs) = .error (.refusedOpcode b)) ∧
  (∀ b : Byte, b ∉ refusedFirstBytes → ∃ bs i rest, decode (b :: bs) = .ok (i, rest))

/-- The refused ModR/M reg fields are exactly those of the table of 30_encoding.md R121, refused before any displacement byte is looked at. The table is the spec's decisions D1, D4 and D30, with D40 for the unused fields. -/
def Obligations.RefusedExtensionsAreTheTable : Prop :=
  (∀ p ∈ refusedExtensions, ∀ (m : Byte) (bs : List Byte), m.extractLsb' 3 3 ∈ p.2 →
    decode (p.1 :: m :: bs) = .error (.refusedExtension p.1 (m.extractLsb' 3 3))) ∧
  (∀ (b m : Byte) (bs : List Byte) (n : BitVec 3), decode (b :: m :: bs) = .error (.refusedExtension b n) →
    ∃ p ∈ refusedExtensions, p.1 = b ∧ n = m.extractLsb' 3 3 ∧ n ∈ p.2)

/-- A repeat prefix is admitted only directly before the string opcodes of 30_encoding.md R123, and the pair is one instruction of two bytes. The prefix bytes are marked by the spec as general knowledge, and the refused pairs are its decision D4. -/
def Obligations.RepeatPairsAreTheTable : Prop :=
  (∀ (op : StringOp) (bs : List Byte), ∃ b, decode (b :: bs) = .ok (plainString op, bs) ∧
    decode (0xF3 :: b :: bs) = .ok (.rep op, bs)) ∧
  (∀ (op : CompareOp) (bs : List Byte), ∃ b, decode (b :: bs) = .ok (plainString (CompareOp.toStringOp op), bs) ∧
    decode (0xF2 :: b :: bs) = .ok (.repne op, bs)) ∧
  (∀ (b : Byte) (bs : List Byte), b ∉ [0xA4, 0xA5, 0xA6, 0xA7, 0xAA, 0xAB, 0xAC, 0xAD, 0xAE, 0xAF] →
    decode (0xF3 :: b :: bs) = .error (.refusedPair 0xF3 b)) ∧
  (∀ (b : Byte) (bs : List Byte), b ∉ [0xA6, 0xA7, 0xAE, 0xAF] →
    decode (0xF2 :: b :: bs) = .error (.refusedPair 0xF2 b))

/-! ## Reset, load and the host's calls -/

/-- `reset()` puts every piece of state into the value of the table of 10_state.md R40, in every run state, and leaves the records of host and observer; the state at creation holds the same values. In the table of R40 the latch is decision D23, the exit code and that host_out and trace are kept are decision D38, and that no fault is recorded is derived by the spec. -/
def Obligations.ResetGivesTableValues : Prop :=
  ∀ s : State, ∀ t ∈ [s.hostReset, State.reset],
    (∀ r ∈ [RegId.ax, .bx, .cx, .dx, .bp, .si, .di, .es, .ip, .flags], t.reg r = 0) ∧
    t.reg .sp = 0x00FF ∧ t.reg .cs = 0x0010 ∧ t.reg .ds = 0x0020 ∧ t.reg .ss = 0x0030 ∧
    (∀ a, t.byteAt a = 0) ∧ t.breakpoints = [] ∧ t.bpResume = none ∧ t.runState = .idle ∧
    t.faultRecord = none ∧ t.exitCode = none ∧ t.fetchAddr = 0x00100 ∧
    s.hostReset.hostOut = s.hostOut ∧ s.hostReset.trace = s.trace

/-- The reset state meets the invariant. -/
def Obligations.ResetMeetsInvariant : Prop := State.reset.Inv

/-- Every step keeps the invariant: canonical memory, reserved FLAGS bits 0, no call left in progress, a fault recorded exactly when Faulted, an exit code only when Halted, the breakpoint latch only when Paused. Of the rules it rests on, the spec marks the latch as decision D23, calls in Halted and Faulted as D26, the mask of FLAGS as D10. -/
def Obligations.StepKeepsInvariant : Prop :=
  ∀ s t : State, s.Inv → step s = .next t → t.Inv

/-- The host's calls between steps keep the invariant; adding and removing a breakpoint change the set by that one address and nothing else. What load leaves alone is decision D27, and that these calls emit no event decision D8. -/
def Obligations.HostCallsKeepInvariant : Prop :=
  (∀ (s : State) (f g : PAddr),
    (g ∈ (s.addBreakpoint f).breakpoints ↔ g = f ∨ g ∈ s.breakpoints) ∧
    (g ∈ (s.removeBreakpoint f).breakpoints ↔ g ≠ f ∧ g ∈ s.breakpoints) ∧
    s.addBreakpoint f = { s with breakpoints := (s.addBreakpoint f).breakpoints } ∧
    s.removeBreakpoint f = { s with breakpoints := (s.removeBreakpoint f).breakpoints }) ∧
  ∀ s : State, s.Inv → s.hostReset.Inv ∧ (∀ p : Program, (s.load p).Inv) ∧ (∀ f, (s.addBreakpoint f).Inv) ∧
    (∀ f, (s.removeBreakpoint f).Inv) ∧ (∀ a bs, (s.putBytes a bs).Inv)

/-- `load(program)` lays code at CS:0 and then data at DS:0, so that data wins where they overlap, sets IP, FLAGS and SP, and changes nothing else. In R463 that data wins where the images overlap and that load changes nothing else are decision D27, and that it emits no event is decision D8. -/
def Obligations.LoadPlacesProgram : Prop :=
  ∀ (s : State) (p : Program),
    (∀ a, (s.load p).byteAt a =
      ((imageByte (phys (s.reg .ds) 0) p.data a).or (imageByte (phys (s.reg .cs) 0) p.code a)).getD (s.byteAt a)) ∧
    (s.load p).reg .ip = p.entryOffset ∧ (s.load p).reg .flags = 0 ∧ (s.load p).reg .sp = 0x00FF ∧
    (∀ r, r ∉ [RegId.ip, .flags, .sp] → (s.load p).reg r = s.reg r) ∧
    SameHost s (s.load p) ∧ (s.load p).trace = s.trace

/-! ## Memory and addresses -/

/-- The read-after-write law of words, with the byte order, at every address (the last byte wraps to address 0), and no other byte changed. -/
def Obligations.WordReadsBackAfterWrite : Prop :=
  ∀ (s : State) (a : PAddr) (w : Word),
    (s.storeWord a w).wordAt a = w ∧
    ((s.storeWord a w).byteAt a).toNat = w.toNat % 256 ∧ ((s.storeWord a w).byteAt (a + 1)).toNat = w.toNat / 256 ∧
    (∀ b, b ≠ a → b ≠ a + 1 → (s.storeWord a w).byteAt b = s.byteAt b)

/-- Address formation: the physical address of seg:off, and the operand each mod and rm pair of a ModR/M byte selects with its displacement bytes, modulo 2^16, in the default segment of the row. The table is 30_encoding.md R93, which the spec marks as general knowledge; the sum modulo 2^16 is its decision D6 and the default segments are its decision D5. -/
def Obligations.AddressesFollowTable : Prop :=
  (∀ seg off : Word, (phys seg off).toNat = (seg.toNat * 16 + off.toNat) % 2 ^ 20) ∧
  ∀ (s : State) (rm : BitVec 3) (lo hi : Byte) (rest : List Byte),
    ∃ (base : Nat) (seg : RegId),
      (base, seg) =
        (match rm.toNat with
        | 0 => ((s.reg .bx).toNat + (s.reg .si).toNat, RegId.ds)
        | 1 => ((s.reg .bx).toNat + (s.reg .di).toNat, .ds)
        | 2 => ((s.reg .bp).toNat + (s.reg .si).toNat, .ss)
        | 3 => ((s.reg .bp).toNat + (s.reg .di).toNat, .ss)
        | 4 => ((s.reg .si).toNat, .ds)
        | 5 => ((s.reg .di).toNat, .ds)
        | 6 => ((s.reg .bp).toNat, .ss)
        | _ => ((s.reg .bx).toNat, .ds)) ∧
      (rm ≠ 6 → ∃ m, takeRm 0 rm (lo :: hi :: rest) = .ok (.mem m, lo :: hi :: rest) ∧
        (s.effAddr m).toNat = base % 2 ^ 16 ∧ s.operandAddr m = phys (s.reg seg) (s.effAddr m)) ∧
      (rm = 6 → ∃ m, takeRm 0 rm (lo :: hi :: rest) = .ok (.mem m, rest) ∧
        (s.effAddr m).toNat = lo.toNat + 256 * hi.toNat ∧ s.operandAddr m = phys (s.reg .ds) (s.effAddr m)) ∧
      (∃ m, takeRm 1 rm (lo :: hi :: rest) = .ok (.mem m, hi :: rest) ∧
        ((s.effAddr m).toNat : Int) = (base + lo.toInt) % 2 ^ 16 ∧ s.operandAddr m = phys (s.reg seg) (s.effAddr m)) ∧
      (∃ m, takeRm 2 rm (lo :: hi :: rest) = .ok (.mem m, rest) ∧
        (s.effAddr m).toNat = (base + lo.toNat + 256 * hi.toNat) % 2 ^ 16 ∧
        s.operandAddr m = phys (s.reg seg) (s.effAddr m)) ∧
      takeRm 3 rm (lo :: hi :: rest) = .ok (.reg rm, lo :: hi :: rest)

/-! ## The step and the run -/

/-- When the bytes at CS:IP decode to an instruction, the step is that instruction run with IP past it, the execute event emitted, the latch cleared and the core Running; a core left Running by it ends Paused. That there is one execute event and no read event of the fetch is decision D8, the wrap of the bytes' offsets decision D7. -/
def Obligations.StepRunsDecodedInstruction : Prop :=
  ∀ (s : State) (i : Instr) (rest : List Byte),
    s.canStep → s.breakpointApplies = false → decode s.fetchWindow = .ok (i, rest) →
    ∃ u, step s = finishOutcome (exec i u) ∧
      u.reg .ip = s.reg .ip + BitVec.ofNat 16 (encode i).length ∧ (∀ r, r ≠ .ip → u.reg r = s.reg r) ∧
      (∀ a, u.byteAt a = s.byteAt a) ∧
      u.runState = .running ∧ u.bpResume = none ∧ u.trace = s.trace ++ [.execute (phys (s.reg .cs) (s.reg .ip))] ∧
      u.breakpoints = s.breakpoints ∧ u.faultRecord = s.faultRecord ∧ u.hostOut = s.hostOut ∧ u.exitCode = s.exitCode ∧
      u.params = s.params ∧ u.outAnswers = s.outAnswers ∧ u.handlerEffects = s.handlerEffects

/-- A well-formed instruction whose encoded bytes stand at CS:IP, each at the offset that wraps in the code segment, is the one the step runs, whatever stands after it. The wrap of the bytes' offsets is decision D7. -/
def Obligations.StepRunsInstructionAtCsIp : Prop :=
  ∀ (s : State) (i : Instr), WellFormed i → s.canStep → s.breakpointApplies = false →
    (∀ k, ∀ b, (encode i)[k]? = some b → s.byteAt (phys (s.reg .cs) (s.reg .ip + BitVec.ofNat 16 k)) = b) →
    step s = finishOutcome (exec i (s.beginAttempt.commitFetch (encode i).length))

/-- A refused encoding at CS:IP: the step ends Faulted with InvalidOpcode, IP at its first byte, nothing changed, the execute event emitted (60_exceptions.md R421). The faulted state is a next state of the model (log 1). What the step returned is read from the state it left (log 2). The state that the fault leaves is decision D15, the execute event decision D8. -/
def Obligations.RefusedEncodingFaults : Prop :=
  ∀ (s : State) (e : DecodeError), s.canStep → s.breakpointApplies = false → decode s.fetchWindow = .error e →
    ∃ t, step s = .next t ∧ FaultedWith s t .invalidOpcode [.execute (phys (s.reg .cs) (s.reg .ip))] ∧
      t.bpResume = none ∧ t.outAnswers = s.outAnswers ∧ t.stepReturn = .fault (some .invalidOpcode)

/-- A step that arrives at a breakpoint executes nothing and only sets the latch; the next step from there executes the instruction at the same address. What the step returned is read from the state it left (log 2). The latch is decision D23, and that no execute event is emitted decision D8. -/
def Obligations.BreakpointStopsOnce : Prop :=
  ∀ s : State, s.canStep → s.fetchAddr ∈ s.breakpoints → s.bpResume ≠ some s.fetchAddr →
    ∃ t, step s = .next t ∧ t = { s with runState := .paused, bpResume := some s.fetchAddr } ∧
      t.stepReturn = .breakpointHit ∧
      step t = (match decode s.fetchWindow with
        | .error _ => .next (t.beginAttempt.raise .invalidOpcode)
        | .ok (i, _) => finishOutcome (exec i (t.beginAttempt.commitFetch (encode i).length)))

/-- In Halted and Faulted a call changes nothing and emits nothing: a step, and a run, which retires nothing; reset leads to Idle. What the step returned is read from the state it left (log 2). What calls in Halted and Faulted return is decision D26, the spec's reading of "require reset to leave". -/
def Obligations.HaltedAndFaultedStay : Prop :=
  ∀ (s : State) (k : Nat),
    (s.runState = .halted → step s = .next s ∧ s.stepReturn = .halted ∧
      run k s = .next { state := s, outcome := .halted, retired := 0 }) ∧
    (s.runState = .faulted → step s = .next s ∧ s.stepReturn = .fault s.faultRecord ∧
      run k s = .next { state := s, outcome := .fault s.faultRecord, retired := 0 }) ∧
    s.hostReset.runState = .idle

/-- A run whose budget is used up can be continued: running on from the state it left gives what one run with the whole budget gives, and the instructions retired add up. Of one instruction: a step that continues or halts is retired, a breakpoint or a fault retires nothing. That runs compose follows from the loop of 40_execution_cycle.md R162 (decisions D24, D25); what a step returned is read from the state it left (log 2). -/
def Obligations.RunsComposeAndCountRetired : Prop :=
  (∀ (m k : Nat) (s t : State) (n : Nat), run m s = .next { state := t, outcome := .outOfBudget, retired := n } →
    n = m ∧
    match run k t with
    | .next r => run (m + k) s = .next (RunResult.more m r)
    | .fault f => run (m + k) s = .fault f
    | .refused r => run (m + k) s = .refused r) ∧
  ∀ s t : State, s.canStep → step s = .next t →
    run 0 s = .next { state := { s with runState := .paused }, outcome := .outOfBudget, retired := 0 } ∧
    (t.stepReturn = .continues → run 1 s = .next { state := { t with runState := .paused }, outcome := .outOfBudget, retired := 1 }) ∧
    (t.stepReturn = .halted → run 1 s = .next { state := t, outcome := .halted, retired := 1 }) ∧
    (t.stepReturn = .breakpointHit → run 1 s = .next { state := t, outcome := .breakpointHit, retired := 0 }) ∧
    (∀ k, t.stepReturn = .fault k → run 1 s = .next { state := t, outcome := .fault k, retired := 0 })

/-! ## Data transfer -/

/-- Every MOV writes the source to the destination, changes no flag and nothing else, with one event for each memory operand. -/
def Obligations.MovCopiesSource : Prop :=
  (∀ d r, Copies 8 (.movRm8R8 d r) (fun s => s.place8 d) (fun _ => .place (.reg8 r))) ∧
  (∀ d r, Copies 16 (.movRm16R16 d r) (fun s => s.place16 d) (fun _ => .place (.reg (Reg16.id r)))) ∧
  (∀ d r, Copies 8 (.movR8Rm8 d r) (fun _ => .reg8 d) (fun s => .place (s.place8 r))) ∧
  (∀ d r, Copies 16 (.movR16Rm16 d r) (fun _ => .reg (Reg16.id d)) (fun s => .place (s.place16 r))) ∧
  (∀ d v, Copies 8 (.movR8Imm8 d v) (fun _ => .reg8 d) (fun _ => .imm v)) ∧
  (∀ d v, Copies 16 (.movR16Imm16 d v) (fun _ => .reg (Reg16.id d)) (fun _ => .imm v)) ∧
  (∀ off, Copies 8 (.movAlMoffs off) (fun _ => .reg8 .al) (fun s => .place (.byteAt (phys (s.reg .ds) off)))) ∧
  (∀ off, Copies 16 (.movAxMoffs off) (fun _ => .reg .ax) (fun s => .place (.wordAt (phys (s.reg .ds) off)))) ∧
  (∀ off, Copies 8 (.movMoffsAl off) (fun s => .byteAt (phys (s.reg .ds) off)) (fun _ => .place (.reg8 .al))) ∧
  (∀ off, Copies 16 (.movMoffsAx off) (fun s => .wordAt (phys (s.reg .ds) off)) (fun _ => .place (.reg .ax))) ∧
  (∀ d, Copies 16 (.movRm16Es d) (fun s => s.place16 d) (fun _ => .place (.reg .es))) ∧
  (∀ d, Copies 16 (.movRm16Cs d) (fun s => s.place16 d) (fun _ => .place (.reg .cs))) ∧
  (∀ d, Copies 16 (.movRm16Ss d) (fun s => s.place16 d) (fun _ => .place (.reg .ss))) ∧
  (∀ d, Copies 16 (.movRm16Ds d) (fun s => s.place16 d) (fun _ => .place (.reg .ds))) ∧
  (∀ r, Copies 16 (.movEsRm16 r) (fun _ => .reg .es) (fun s => .place (s.place16 r))) ∧
  (∀ r, Copies 16 (.movSsRm16 r) (fun _ => .reg .ss) (fun s => .place (s.place16 r))) ∧
  (∀ r, Copies 16 (.movDsRm16 r) (fun _ => .reg .ds) (fun s => .place (s.place16 r)))

/-- Every PUSH lowers SP by 2 modulo 2^16 and stores the value read before that at the new SS:SP; PUSH SP stores the SP before the push, which 42_data_transfer.md R197 marks as derived from R70 (decision D16). The order of the two events is decision D35. -/
def Obligations.PushStoresAtNewTop : Prop :=
  (∀ r, Pushes (.pushR16 r) (fun _ => .reg (Reg16.id r))) ∧
  Pushes .pushEs (fun _ => .reg .es) ∧ Pushes .pushCs (fun _ => .reg .cs) ∧
  Pushes .pushSs (fun _ => .reg .ss) ∧ Pushes .pushDs (fun _ => .reg .ds) ∧
  (∀ o, Pushes (.pushRm16 o) (fun s => s.place16 o))

/-- Every POP loads the word at SS:SP and raises SP by 2 modulo 2^16; POP SP ends with the popped word; the address of a memory destination is the one before SP changed. That POP SP ends so 42_data_transfer.md R200 marks as derived from R71. The order of the two events is decision D35. -/
def Obligations.PopLoadsFromTop : Prop :=
  (∀ r, Pops (.popR16 r) (fun _ => .reg (Reg16.id r))) ∧
  Pops .popEs (fun _ => .reg .es) ∧ Pops .popSs (fun _ => .reg .ss) ∧ Pops .popDs (fun _ => .reg .ds) ∧
  (∀ o, Pops (.popRm16 o) (fun s => s.place16 o))

/-- Every PUSH followed by a POP leaves SP as it was, but for a POP into SP itself, which PopLoadsFromTop states; PUSH and POP of registers carry the word over; a CALL followed by the RET of its kind leaves SP as it was and comes back after the CALL, for any callee that balanced its own pushes and kept the frame and SS. The law of R204 is marked by the spec as derived from R70 and R71; that PUSH SP carries over the SP before the push R197 marks as derived from R70 (decision D16); the frame of far CALL (R371) and the far RET (R374) are general knowledge and decision D21. -/
def Obligations.StackIsBalanced : Prop :=
  (∀ (r q : Reg16) (o p : Rm16) (s : State), q ≠ .sp → p ≠ .reg .sp →
    ∀ i ∈ [Instr.pushR16 r, .pushEs, .pushCs, .pushSs, .pushDs, .pushRm16 o],
    ∀ j ∈ [Instr.popR16 q, .popEs, .popSs, .popDs, .popRm16 p],
      ∃ t u, exec i s = .next t ∧ exec j t = .next u ∧ u.reg .sp = s.reg .sp) ∧
  (∀ (r q : Reg16) (s : State), q ≠ .sp → ∃ t u, exec (.pushR16 r) s = .next t ∧ exec (.popR16 q) t = .next u ∧
    u.reg .sp = s.reg .sp ∧ u.reg (Reg16.id q) = s.reg (Reg16.id r)) ∧
  (∀ (disp : Word) (s : State), ∃ t, exec (.callRel16 disp) s = .next t ∧
    ∀ v : State, v.reg .sp = t.reg .sp → v.reg .ss = t.reg .ss →
      v.wordAt (phys (t.reg .ss) (t.reg .sp)) = t.wordAt (phys (t.reg .ss) (t.reg .sp)) →
      ∃ u, exec .ret v = .next u ∧ u.reg .sp = s.reg .sp ∧ u.reg .ip = s.reg .ip) ∧
  (∀ (off seg : Word) (s : State), ∃ t, exec (.callFar off seg) s = .next t ∧
    ∀ v : State, v.reg .sp = t.reg .sp → v.reg .ss = t.reg .ss →
      v.wordAt (phys (t.reg .ss) (t.reg .sp)) = t.wordAt (phys (t.reg .ss) (t.reg .sp)) →
      v.wordAt (phys (t.reg .ss) (t.reg .sp + 2)) = t.wordAt (phys (t.reg .ss) (t.reg .sp + 2)) →
      ∃ u, exec .retf v = .next u ∧ u.reg .sp = s.reg .sp ∧ u.reg .ip = s.reg .ip ∧ u.reg .cs = s.reg .cs)

/-! ## Arithmetic -/

/-- ADD adds without the carry and ADC with CF before the instruction, in all nine forms. -/
def Obligations.AddAndAdcResult : Prop :=
  addForms.All (WritesResult fun n a b _ r x => AddRule n a b false r x) ∧ adcForms.All (WritesResult AddRule)

/-- SUB subtracts without the borrow and SBB with CF before the instruction, in all nine forms. AF is R173's sentence "The AF line is the spec's reading of "analogous": borrow out of bit 3", which the spec marks as derived from R172. -/
def Obligations.SubAndSbbResult : Prop :=
  subForms.All (WritesResult fun n a b _ r x => SubRule n a b false r x) ∧ sbbForms.All (WritesResult SubRule)

/-- CMP writes the flags of SUB and no result, with no write event, in all nine forms. AF is that of R173, the spec's reading of "analogous", which it marks as derived from R172. -/
def Obligations.CmpWritesFlagsOnly : Prop :=
  cmpForms.All (WritesFlagsOnly fun n a b _ r x => SubRule n a b false r x)

/-- INC and DEC add and subtract 1 and write all status flags but CF. AF of DEC is that of R173, the spec's reading of "analogous", which it marks as derived from R172. -/
def Obligations.IncAndDecKeepCarry : Prop :=
  (∀ r, StepsByOne AddRule 16 (.incR16 r) (fun _ => .reg (Reg16.id r))) ∧
  (∀ o, StepsByOne AddRule 8 (.incRm8 o) (fun s => s.place8 o)) ∧
  (∀ o, StepsByOne AddRule 16 (.incRm16 o) (fun s => s.place16 o)) ∧
  (∀ r, StepsByOne SubRule 16 (.decR16 r) (fun _ => .reg (Reg16.id r))) ∧
  (∀ o, StepsByOne SubRule 8 (.decRm8 o) (fun s => s.place8 o)) ∧
  (∀ o, StepsByOne SubRule 16 (.decRm16 o) (fun s => s.place16 o))

/-- What NEG does to a place. -/
def Negates (n : Nat) (i : Instr) (p : State → Place n) : Prop :=
  ∀ s : State, ∃ t r x, exec i s = .next t ∧ SubRule n 0 (s.valueOf (p s)) false r x ∧
    (x.cf = true ↔ (s.valueOf (p s)).toNat ≠ 0) ∧ (x.of = true ↔ (s.valueOf (p s)).toNat = 2 ^ (n - 1)) ∧
    (x.af = true ↔ (s.valueOf (p s)).toNat % 16 ≠ 0) ∧
    t.valueOf (p s) = r ∧ HasStatus t x ∧ Kept s t ((p s).footprint.and { flags := statusFlags }) ∧
    t.trace = s.trace ++ (p s).readEvents ++ (p s).writeEvents r

/-- NEG subtracts from zero and writes all six flags: CF exactly when the operand is not 0, OF exactly for the most negative number, AF exactly when its low four bits are not 0. Negation as a subtraction from zero is marked by the spec as general knowledge (decision D13). -/
def Obligations.NegSubtractsFromZero : Prop :=
  (∀ o, Negates 8 (.negRm8 o) (fun s => s.place8 o)) ∧ (∀ o, Negates 16 (.negRm16 o) (fun s => s.place16 o))

/-- OF of the addition and subtraction primitives tells exactly that the signed result is out of range, carry included, and CF that the unsigned one is. -/
def Obligations.OverflowFlagsTellTheRange : Prop :=
  ∀ (n : Nat) (a b : BitVec n) (c : Bool), 0 < n →
    ((addN a b c).status.of = true ↔
      ¬(-2 ^ (n - 1) ≤ a.toInt + b.toInt + c.toNat ∧ a.toInt + b.toInt + c.toNat < 2 ^ (n - 1))) ∧
    ((addN a b c).status.cf = true ↔ ¬a.toNat + b.toNat + c.toNat < 2 ^ n) ∧
    ((subN a b c).status.of = true ↔
      ¬(-2 ^ (n - 1) ≤ a.toInt - b.toInt - c.toNat ∧ a.toInt - b.toInt - c.toNat < 2 ^ (n - 1))) ∧
    ((subN a b c).status.cf = true ↔ ¬0 ≤ (a.toNat : Int) - b.toNat - c.toNat)

/-- After CMP of a and b each condition of a conditional jump holds exactly when its name says so of a and b: unsigned, signed, equal. -/
def ConditionsCompare : BinaryClaim := fun n i dst src =>
  ∀ s : State, ∃ t, exec i s = .next t ∧
    let a := s.valueOf (dst s)
    let b : BitVec n := (src s).value s
    (t.cond .b = true ↔ a.toNat < b.toNat) ∧ (t.cond .nb = true ↔ b.toNat ≤ a.toNat) ∧
    (t.cond .be = true ↔ a.toNat ≤ b.toNat) ∧ (t.cond .a = true ↔ b.toNat < a.toNat) ∧
    (t.cond .l = true ↔ a.toInt < b.toInt) ∧ (t.cond .ge = true ↔ b.toInt ≤ a.toInt) ∧
    (t.cond .le = true ↔ a.toInt ≤ b.toInt) ∧ (t.cond .g = true ↔ b.toInt < a.toInt) ∧
    (t.cond .e = true ↔ a = b) ∧ (t.cond .ne = true ↔ a ≠ b)

/-- CMP followed by a conditional jump compares: the conditions B, NB, BE, A are the unsigned order of the operands, L, GE, LE, G the signed order, E and NE equality, in all nine forms of CMP. The predicates are marked by the spec as general knowledge (decision D34). -/
def Obligations.ConditionsCompareAfterCmp : Prop := cmpForms.All ConditionsCompare

/-! ## Logic -/

/-- AND, OR and XOR write the bitwise result, clear CF, OF and AF and set ZF, SF and PF from it, in all nine forms. -/
def Obligations.LogicResult : Prop :=
  andForms.All (WritesResult fun n a b _ r x => (∀ k, r.getLsbD k = (a.getLsbD k && b.getLsbD k)) ∧ LogicRule n r x) ∧
  orForms.All (WritesResult fun n a b _ r x => (∀ k, r.getLsbD k = (a.getLsbD k || b.getLsbD k)) ∧ LogicRule n r x) ∧
  xorForms.All (WritesResult fun n a b _ r x => (∀ k, r.getLsbD k = (a.getLsbD k ^^ b.getLsbD k)) ∧ LogicRule n r x)

/-- The rule of TEST: the flags of AND, the result discarded. -/
def testRule : AluRule := fun n a b _ r x => (∀ k, r.getLsbD k = (a.getLsbD k && b.getLsbD k)) ∧ LogicRule n r x

/-- What NOT does to a place. -/
def Complements (n : Nat) (i : Instr) (p : State → Place n) : Prop :=
  ∀ s : State, ∃ t, exec i s = .next t ∧
    (∀ k, k < n → (t.valueOf (p s)).getLsbD k = !(s.valueOf (p s)).getLsbD k) ∧ Kept s t (p s).footprint ∧
    t.trace = s.trace ++ (p s).readEvents ++ (p s).writeEvents (t.valueOf (p s))

/-- TEST writes the flags of AND and nothing else, in all six forms; NOT complements every bit of its operand and writes no flag. That TEST is AND that discards its result is marked by the spec as general knowledge, and that NOT writes no flag is decision D12. -/
def Obligations.TestAndNotResult : Prop :=
  (∀ d r, WritesFlagsOnly testRule 8 (.testRm8R8 d r) (fun s => s.place8 d) (fun _ => .place (.reg8 r))) ∧
  (∀ d r, WritesFlagsOnly testRule 16 (.testRm16R16 d r) (fun s => s.place16 d) (fun _ => .place (.reg (Reg16.id r)))) ∧
  (∀ v, WritesFlagsOnly testRule 8 (.testAlImm8 v) (fun _ => .reg8 .al) (fun _ => .imm v)) ∧
  (∀ v, WritesFlagsOnly testRule 16 (.testAxImm16 v) (fun _ => .reg .ax) (fun _ => .imm v)) ∧
  (∀ d v, WritesFlagsOnly testRule 8 (.testRm8Imm8 d v) (fun s => s.place8 d) (fun _ => .imm v)) ∧
  (∀ d v, WritesFlagsOnly testRule 16 (.testRm16Imm16 d v) (fun s => s.place16 d) (fun _ => .imm v)) ∧
  (∀ o, Complements 8 (.notRm8 o) (fun s => s.place8 o)) ∧ (∀ o, Complements 16 (.notRm16 o) (fun s => s.place16 o))

/-! ## Shifts and rotates -/

/-- ROL and ROR rotate by the count modulo the width; CF is the bit that crossed the boundary; OF by a count of 1 only, kept by larger counts (decision D9, log 8); SF, ZF, PF and AF kept. OF for a count of 1 is decision D11, the count 0 decision D28, the count not masked decision D29. -/
def Obligations.RotateResult : Prop :=
  rolForms.All (Shifts (fun n a c k r d => r = a.rotateLeft (k % n) ∧ d = if k = 0 then c else r.getLsbD 0)
    (fun _ _ _ r d => d ^^ r.msb) false) ∧
  rorForms.All (Shifts (fun n a c k r d => r = a.rotateRight (k % n) ∧ d = if k = 0 then c else r.msb)
    (fun _ a _ _ d => d ^^ a.msb) false)

/-- RCL and RCR rotate the ring of CF above the operand by the count modulo the width plus one; OF by a count of 1 only, kept by larger counts (decision D9, log 8). RCL and RCR are marked by the spec as general knowledge (decision D13), the count 0 is decision D28, the count not masked decision D29. -/
def Obligations.RotateThroughCarryResult : Prop :=
  rclForms.All (Shifts
    (fun n a c k r d => BitVec.cons d r = (BitVec.cons c a).rotateLeft (k % (n + 1)))
    (fun _ _ _ r d => d ^^ r.msb) false) ∧
  rcrForms.All (Shifts
    (fun n a c k r d => BitVec.cons d r = (BitVec.cons c a).rotateRight (k % (n + 1)))
    (fun _ a c _ _ => a.msb ^^ c) false)

/-- SHL shifts left with zeros in by the whole count, not masked; CF is the last bit shifted out, 0 beyond the width. AF is kept, and OF by counts above 1 (decision D9, log 8). SHL is marked by the spec as general knowledge (decision D13), the count 0 is decision D28, the count not masked decision D29. -/
def Obligations.ShiftLeftResult : Prop :=
  shlForms.All (Shifts
    (fun n a c k r d => r.toNat = a.toNat * 2 ^ k % 2 ^ n ∧
      d = if k = 0 then c else if k ≤ n then a.getLsbD (n - k) else false)
    (fun _ _ _ r d => d ^^ r.msb) true)

/-- SHR shifts right with zeros in, SAR with copies of the sign bit; CF is the last bit shifted out, and beyond the width 0 or the sign bit. AF is kept, and OF by counts above 1 (decision D9, log 8). SHR and SAR are marked by the spec as general knowledge (decision D13), the count 0 is decision D28, the count not masked decision D29. -/
def Obligations.ShiftRightResult : Prop :=
  shrForms.All (Shifts
    (fun _ a c k r d => r.toNat = a.toNat / 2 ^ k ∧ d = if k = 0 then c else a.getLsbD (k - 1))
    (fun _ a _ _ _ => a.msb) true) ∧
  sarForms.All (Shifts
    (fun n a c k r d => r.toInt = a.toInt / 2 ^ k ∧
      d = if k = 0 then c else if k ≤ n then a.getLsbD (k - 1) else a.msb)
    (fun _ _ _ _ _ => false) true)

/-! ## Multiply, divide, convert -/

/-- MUL gives the whole unsigned product in AX or DX:AX, CF and OF telling that the high half is not 0; IMUL the whole signed product, CF and OF telling that the high half is not the sign extension of the low half. SF, ZF, AF and PF are kept, as 10_state.md R28 says (decision D9, log 8). IMUL is marked by the spec as general knowledge (decision D13). -/
def Obligations.MultiplyGivesWholeProduct : Prop :=
  (∀ (o : Rm8) (s : State), ∃ t, exec (.mulRm8 o) s = .next t ∧
    (t.reg .ax).toNat = (s.reg8 .al).toNat * (s.valueOf (s.place8 o)).toNat ∧
    (t.flag .cf = true ↔ (t.reg8 .ah).toNat ≠ 0) ∧ t.flag .of = t.flag .cf ∧
    Kept s t { regs := [.ax], flags := [.cf, .of] } ∧ t.trace = s.trace ++ (s.place8 o).readEvents) ∧
  (∀ (o : Rm16) (s : State), ∃ t, exec (.mulRm16 o) s = .next t ∧
    (t.reg .dx).toNat * 65536 + (t.reg .ax).toNat = (s.reg .ax).toNat * (s.valueOf (s.place16 o)).toNat ∧
    (t.flag .cf = true ↔ (t.reg .dx).toNat ≠ 0) ∧ t.flag .of = t.flag .cf ∧
    Kept s t { regs := [.dx, .ax], flags := [.cf, .of] } ∧ t.trace = s.trace ++ (s.place16 o).readEvents) ∧
  (∀ (o : Rm8) (s : State), ∃ t, exec (.imulRm8 o) s = .next t ∧
    (t.reg .ax).toInt = (s.reg8 .al).toInt * (s.valueOf (s.place8 o)).toInt ∧
    (t.flag .cf = true ↔ (t.reg .ax).toInt ≠ (t.reg8 .al).toInt) ∧ t.flag .of = t.flag .cf ∧
    Kept s t { regs := [.ax], flags := [.cf, .of] } ∧ t.trace = s.trace ++ (s.place8 o).readEvents) ∧
  (∀ (o : Rm16) (s : State), ∃ t, exec (.imulRm16 o) s = .next t ∧
    (t.reg .dx).toInt * 65536 + (t.reg .ax).toNat = (s.reg .ax).toInt * (s.valueOf (s.place16 o)).toInt ∧
    (t.flag .cf = true ↔ (t.reg .dx).toInt * 65536 + (t.reg .ax).toNat ≠ (t.reg .ax).toInt) ∧ t.flag .of = t.flag .cf ∧
    Kept s t { regs := [.dx, .ax], flags := [.cf, .of] } ∧ t.trace = s.trace ++ (s.place16 o).readEvents)

/-- DIV completes exactly when the divisor is not 0 and the quotient fits, with quotient and remainder and no flag written (decision D9, log 8); otherwise the step faults with DivideError after reading the operand, registers as before. The state that the fault leaves is decision D15. -/
def Obligations.DivDividesOrFaults : Prop :=
  (∀ (o : Rm8) (s : State),
    let n := (s.reg .ax).toNat
    let d := (s.valueOf (s.place8 o)).toNat
    (d ≠ 0 → n / d ≤ 0xFF → ∃ t, exec (.divRm8 o) s = .next t ∧
      (t.reg8 .al).toNat = n / d ∧ (t.reg8 .ah).toNat = n % d ∧
      Kept s t { regs := [.ax] } ∧ t.trace = s.trace ++ (s.place8 o).readEvents) ∧
    (d = 0 ∨ n / d > 0xFF → ∃ t, exec (.divRm8 o) s = .next t ∧
      FaultedWith s t .divideError (s.place8 o).readEvents)) ∧
  (∀ (o : Rm16) (s : State),
    let n := (s.reg .dx).toNat * 65536 + (s.reg .ax).toNat
    let d := (s.valueOf (s.place16 o)).toNat
    (d ≠ 0 → n / d ≤ 0xFFFF → ∃ t, exec (.divRm16 o) s = .next t ∧
      (t.reg .ax).toNat = n / d ∧ (t.reg .dx).toNat = n % d ∧
      Kept s t { regs := [.dx, .ax] } ∧ t.trace = s.trace ++ (s.place16 o).readEvents) ∧
    (d = 0 ∨ n / d > 0xFFFF → ∃ t, exec (.divRm16 o) s = .next t ∧
      FaultedWith s t .divideError (s.place16 o).readEvents))

/-- IDIV truncates toward zero, the remainder with the sign of the dividend; it completes exactly when the divisor is not 0 and the quotient lies in -127 to 127, or -32767 to 32767, and otherwise faults with DivideError, registers as before. No flag is written (decision D9, log 8). IDIV is marked by the spec as general knowledge (decision D13), and the state that the fault leaves is decision D15. -/
def Obligations.IdivDividesOrFaults : Prop :=
  (∀ (o : Rm8) (s : State),
    let n := (s.reg .ax).toInt
    let d := (s.valueOf (s.place8 o)).toInt
    (d ≠ 0 → -127 ≤ n.tdiv d → n.tdiv d ≤ 127 → ∃ t, exec (.idivRm8 o) s = .next t ∧
      (t.reg8 .al).toInt = n.tdiv d ∧ (t.reg8 .ah).toInt = n.tmod d ∧
      Kept s t { regs := [.ax] } ∧ t.trace = s.trace ++ (s.place8 o).readEvents) ∧
    (d = 0 ∨ n.tdiv d < -127 ∨ n.tdiv d > 127 → ∃ t, exec (.idivRm8 o) s = .next t ∧
      FaultedWith s t .divideError (s.place8 o).readEvents)) ∧
  (∀ (o : Rm16) (s : State),
    let n := (s.reg .dx).toInt * 65536 + (s.reg .ax).toNat
    let d := (s.valueOf (s.place16 o)).toInt
    (d ≠ 0 → -32767 ≤ n.tdiv d → n.tdiv d ≤ 32767 → ∃ t, exec (.idivRm16 o) s = .next t ∧
      (t.reg .ax).toInt = n.tdiv d ∧ (t.reg .dx).toInt = n.tmod d ∧
      Kept s t { regs := [.dx, .ax] } ∧ t.trace = s.trace ++ (s.place16 o).readEvents) ∧
    (d = 0 ∨ n.tdiv d < -32767 ∨ n.tdiv d > 32767 → ∃ t, exec (.idivRm16 o) s = .next t ∧
      FaultedWith s t .divideError (s.place16 o).readEvents))

/-- CBW extends the sign of AL into AH, CWD that of AX into DX, and no flag changes. That neither writes a flag is decision D31. -/
def Obligations.ConvertExtendsSign : Prop :=
  ∀ s : State,
    (∃ t, exec .cbw s = .next t ∧ (t.reg .ax).toInt = (s.reg8 .al).toInt ∧
      (t.reg8 .ah = if (s.reg8 .al).getLsbD 7 = true then 0xFF else 0x00) ∧ Kept s t { halves := [.ah] } ∧ t.trace = s.trace) ∧
    (∃ t, exec .cwd s = .next t ∧ (t.reg .dx).toInt * 65536 + (t.reg .ax).toNat = (s.reg .ax).toInt ∧
      (t.reg .dx = if (s.reg .ax).getLsbD 15 = true then 0xFFFF else 0x0000) ∧ Kept s t { regs := [.dx] } ∧ t.trace = s.trace)

/-! ## Flags and miscellany -/

/-- LAHF builds AH from the five flags with bit 1 set and bits 5 and 3 clear; SAHF writes the five flags from AH and ignores those three bits. That LAHF gives bits 5, 3 and 1 of AH these constants although FLAGS reads 0 there is decision D10. -/
def Obligations.LahfAndSahfMoveFlags : Prop :=
  ∀ s : State,
    (∃ t, exec .lahf s = .next t ∧
      (t.reg8 .ah).toNat = 128 * (s.flag .sf).toNat + 64 * (s.flag .zf).toNat + 16 * (s.flag .af).toNat +
        4 * (s.flag .pf).toNat + 2 + (s.flag .cf).toNat ∧
      Kept s t { halves := [.ah] } ∧ t.trace = s.trace) ∧
    (∃ t, exec .sahf s = .next t ∧
      t.flag .sf = (s.reg8 .ah).getLsbD 7 ∧ t.flag .zf = (s.reg8 .ah).getLsbD 6 ∧ t.flag .af = (s.reg8 .ah).getLsbD 4 ∧
      t.flag .pf = (s.reg8 .ah).getLsbD 2 ∧ t.flag .cf = (s.reg8 .ah).getLsbD 0 ∧
      Kept s t { flags := [.sf, .zf, .af, .pf, .cf] } ∧ t.trace = s.trace)

/-- What a flag control does. -/
def SetsFlag (i : Instr) (g : Flag) (b : Bool) : Prop :=
  ∀ s : State, ∃ t, exec i s = .next t ∧ t.flag g = b ∧ Kept s t { flags := [g] } ∧ t.trace = s.trace

/-- The six flag controls set or clear their one flag, NOP changes nothing, and HLT ends the step Halted with all else as it was. What the step returned is read from the state it left (log 2). That NOP does nothing is marked by the spec as general knowledge. -/
def Obligations.FlagControlsNopAndHlt : Prop :=
  SetsFlag .clc .cf false ∧ SetsFlag .stc .cf true ∧ SetsFlag .cli .intf false ∧ SetsFlag .sti .intf true ∧
  SetsFlag .cld .df false ∧ SetsFlag .std .df true ∧ (∀ s : State, exec .nop s = .next s) ∧
  (∀ s : State, ∃ t, exec .hlt s = .next t ∧ t = { s with runState := .halted } ∧ t.finish = t ∧
    t.stepReturn = .halted ∧ t.goodEnd)

/-! ## Control transfer -/

/-- The three unconditional jumps: relative to the IP after the instruction modulo 2^16 with CS kept, or both parts from the instruction. -/
def Obligations.JumpsSetTarget : Prop :=
  (∀ (disp : Byte) (s : State), ∃ t, exec (.jmpRel8 disp) s = .next t ∧
    ((t.reg .ip).toNat : Int) = ((s.reg .ip).toNat + disp.toInt) % 2 ^ 16 ∧ Kept s t { regs := [.ip] } ∧ t.trace = s.trace) ∧
  (∀ (disp : Word) (s : State), ∃ t, exec (.jmpRel16 disp) s = .next t ∧
    (t.reg .ip).toNat = ((s.reg .ip).toNat + disp.toNat) % 2 ^ 16 ∧ Kept s t { regs := [.ip] } ∧ t.trace = s.trace) ∧
  (∀ (off seg : Word) (s : State), ∃ t, exec (.jmpFar off seg) s = .next t ∧
    t.reg .ip = off ∧ t.reg .cs = seg ∧ Kept s t { regs := [.ip, .cs] } ∧ t.trace = s.trace)

/-- The sixteen conditional jumps with their predicates. The sixteen predicates are marked by the spec as general knowledge (R344, decision D34), and that no jump writes a flag is decision D31. -/
def Obligations.ConditionalJumpsFollowPredicates : Prop :=
  JumpsWhen .joRel8 (fun s => s.flag .of) ∧ JumpsWhen .jnoRel8 (fun s => !s.flag .of) ∧
  JumpsWhen .jbRel8 (fun s => s.flag .cf) ∧ JumpsWhen .jnbRel8 (fun s => !s.flag .cf) ∧
  JumpsWhen .jeRel8 (fun s => s.flag .zf) ∧ JumpsWhen .jneRel8 (fun s => !s.flag .zf) ∧
  JumpsWhen .jbeRel8 (fun s => s.flag .cf || s.flag .zf) ∧ JumpsWhen .jaRel8 (fun s => !(s.flag .cf || s.flag .zf)) ∧
  JumpsWhen .jsRel8 (fun s => s.flag .sf) ∧ JumpsWhen .jnsRel8 (fun s => !s.flag .sf) ∧
  JumpsWhen .jpRel8 (fun s => s.flag .pf) ∧ JumpsWhen .jnpRel8 (fun s => !s.flag .pf) ∧
  JumpsWhen .jlRel8 (fun s => s.flag .sf ^^ s.flag .of) ∧ JumpsWhen .jgeRel8 (fun s => !(s.flag .sf ^^ s.flag .of)) ∧
  JumpsWhen .jleRel8 (fun s => s.flag .zf || (s.flag .sf ^^ s.flag .of)) ∧
  JumpsWhen .jgRel8 (fun s => !(s.flag .zf || (s.flag .sf ^^ s.flag .of)))

/-- LOOP, LOOPE and LOOPNE decrement CX without touching a flag and jump while CX is then not 0 and their ZF test holds. -/
def Obligations.LoopsCountDown : Prop :=
  LoopsWhen .loopRel8 (fun _ => true) ∧ LoopsWhen .loopeRel8 (fun s => s.flag .zf) ∧
  LoopsWhen .loopneRel8 (fun s => !s.flag .zf)

/-- CALL pushes the return address, for a far call CS first and the offset below it, and jumps. That far CALL pushes CS first is general knowledge and decision D21, the order of its writes D35, and that no flag is written D31. -/
def Obligations.CallsPushReturnAddress : Prop :=
  (∀ (disp : Word) (s : State), ∃ t, exec (.callRel16 disp) s = .next t ∧
    let top := phys (s.reg .ss) (s.reg .sp - 2)
    t.reg .sp = s.reg .sp - 2 ∧ t.wordAt top = s.reg .ip ∧ t.reg .ip = s.reg .ip + disp ∧
    Kept s t { regs := [.sp, .ip], bytes := [top, top + 1] } ∧ t.trace = s.trace ++ [.write top .word (s.reg .ip)]) ∧
  (∀ (off seg : Word) (s : State), ∃ t, exec (.callFar off seg) s = .next t ∧
    let high := phys (s.reg .ss) (s.reg .sp - 2)
    let low := phys (s.reg .ss) (s.reg .sp - 4)
    t.reg .sp = s.reg .sp - 4 ∧ t.wordAt high = s.reg .cs ∧ t.wordAt low = s.reg .ip ∧
    t.reg .ip = off ∧ t.reg .cs = seg ∧
    Kept s t { regs := [.sp, .ip, .cs], bytes := [high, high + 1, low, low + 1] } ∧
    t.trace = s.trace ++ [.write high .word (s.reg .cs), .write low .word (s.reg .ip)])

/-- What the four returns do: IP, and for the far ones CS, from the stack, SP raised past them and past `extra` bytes more. -/
def Returns (i : Instr) (far : Bool) (extra : Word) : Prop :=
  ∀ s : State, ∃ t, exec i s = .next t ∧
    let low := phys (s.reg .ss) (s.reg .sp)
    let high := phys (s.reg .ss) (s.reg .sp + 2)
    t.reg .ip = s.wordAt low ∧
    (if far = true then t.reg .cs = s.wordAt high ∧ t.reg .sp = s.reg .sp + 4 + extra ∧
        Kept s t { regs := [.ip, .cs, .sp] } ∧ t.trace = s.trace ++ [.read low .word, .read high .word]
      else t.reg .sp = s.reg .sp + 2 + extra ∧ Kept s t { regs := [.ip, .sp] } ∧ t.trace = s.trace ++ [.read low .word])

/-- RET and RETF pop the return address, and with an operand drop that many bytes more. The far forms are admitted by general knowledge and decision D21 (R374), the order of their reads is D35, and that no flag is written D31. -/
def Obligations.ReturnsPopAddress : Prop :=
  Returns .ret false 0 ∧ (∀ v, Returns (.retImm16 v) false v) ∧ Returns .retf true 0 ∧
  (∀ v, Returns (.retfImm16 v) true v)

/-- IRET pops IP, CS and FLAGS in that order, FLAGS through the mask of its meaningful bits. The order of the three words is marked by the spec as general knowledge, the mask is decision D20, the order of the reads D35. -/
def Obligations.IretRestoresThree : Prop :=
  ∀ s : State, ∃ t, exec .iret s = .next t ∧
    let first := phys (s.reg .ss) (s.reg .sp)
    let second := phys (s.reg .ss) (s.reg .sp + 2)
    let third := phys (s.reg .ss) (s.reg .sp + 4)
    t.reg .ip = s.wordAt first ∧ t.reg .cs = s.wordAt second ∧ t.reg .flags = s.wordAt third &&& 0x0FD5 ∧
    t.reg .sp = s.reg .sp + 6 ∧
    Kept s t { regs := [.ip, .cs, .sp], flags := [.cf, .pf, .af, .zf, .sf, .tf, .intf, .df, .of] } ∧
    t.trace = s.trace ++ [.read first .word, .read second .word, .read third .word]

/-! ## Strings -/

/-- One iteration of each string instruction: MOVS copies, STOS stores the accumulator, LODS loads it, CMPS and SCAS compare; only the pointers in use move, by the size, in the direction DF says. The spec marks as general knowledge that STOS, LODS and SCAS use AL or AX and which pointers are updated (R390); the order of subtraction is decision D32, the order of the events D35, that MOVS, STOS and LODS write no flag D31, and AF of CMPS and SCAS is R173's, marked as derived from R172. -/
def Obligations.StringInstructionsDoOneElement : Prop :=
  MovesElement (n := 8) .movsb (fun s => .byteAt (phys (s.reg .es) (s.reg .di))) (fun s => .byteAt (phys (s.reg .ds) (s.reg .si))) 1 [.si, .di] ∧
  MovesElement (n := 16) .movsw (fun s => .wordAt (phys (s.reg .es) (s.reg .di))) (fun s => .wordAt (phys (s.reg .ds) (s.reg .si))) 2 [.si, .di] ∧
  MovesElement (n := 8) .stosb (fun s => .byteAt (phys (s.reg .es) (s.reg .di))) (fun _ => .reg8 .al) 1 [.di] ∧
  MovesElement (n := 16) .stosw (fun s => .wordAt (phys (s.reg .es) (s.reg .di))) (fun _ => .reg .ax) 2 [.di] ∧
  MovesElement (n := 8) .lodsb (fun _ => .reg8 .al) (fun s => .byteAt (phys (s.reg .ds) (s.reg .si))) 1 [.si] ∧
  MovesElement (n := 16) .lodsw (fun _ => .reg .ax) (fun s => .wordAt (phys (s.reg .ds) (s.reg .si))) 2 [.si] ∧
  ComparesElements (n := 8) .cmpsb (fun s => .byteAt (phys (s.reg .ds) (s.reg .si))) (fun s => .byteAt (phys (s.reg .es) (s.reg .di))) 1 [.si, .di] ∧
  ComparesElements (n := 16) .cmpsw (fun s => .wordAt (phys (s.reg .ds) (s.reg .si))) (fun s => .wordAt (phys (s.reg .es) (s.reg .di))) 2 [.si, .di] ∧
  ComparesElements (n := 8) .scasb (fun _ => .reg8 .al) (fun s => .byteAt (phys (s.reg .es) (s.reg .di))) 1 [.di] ∧
  ComparesElements (n := 16) .scasw (fun _ => .reg .ax) (fun s => .wordAt (phys (s.reg .es) (s.reg .di))) 2 [.di]

/-- The repetition: the prefixed instruction completes after `k` iterations of the plain one, CX lowered by `k`, where REP runs until CX is 0, REPE until CX is 0 or an iteration leaves ZF = 0, REPNE until CX is 0 or an iteration leaves ZF = 1; with CX = 0 nothing happens. R401 marks two of its sentences: "The decrement of CX writes no flag" as derived from R361 and R28, and "The order "iteration, decrement, then ZF test" is the spec's reading of "post-op"" as decision D33. -/
def Obligations.RepetitionRunsToItsEnd : Prop :=
  (∀ (op : StringOp) (s : State), exec (plainString op) s = .next (s.stringOnce op)) ∧
  (∀ (op : StringOp) (s : State), ∃ k, exec (.rep op) s = .next (afterIterations op k s) ∧
    StopsAfter op (fun t => !comparesString op || t.flag .zf) s k ∧
    (afterIterations op k s).reg .cx = s.reg .cx - BitVec.ofNat 16 k) ∧
  (∀ (op : CompareOp) (s : State), ∃ k, exec (.repne op) s = .next (afterIterations (CompareOp.toStringOp op) k s) ∧
    StopsAfter (CompareOp.toStringOp op) (fun t => !t.flag .zf) s k ∧
    (afterIterations (CompareOp.toStringOp op) k s).reg .cx = s.reg .cx - BitVec.ofNat 16 k)

/-- REP MOVS, STOS and LODS end with CX = 0 and the pointers moved by CX elements; REP MOVSB copies exactly CX bytes when source and destination do not overlap, REP STOSB fills CX bytes with AL, REP LODSB ends with the last byte in AL; FLAGS is the same word. 49_string.md R403 states the count for REP MOVSB; the clauses on STOS and LODS follow from R392 and R393 by the loop of R401. That the decrement of CX writes no flag R401 marks as derived; the order of its loop is decision D33; the accumulator of STOS and LODS and the pointers in use are marked as general knowledge, and that the three write no flag is decision D31. -/
def Obligations.RepMovesExactlyCxElements : Prop :=
  ∀ (s : State) (count : Nat), (s.reg .cx).toNat = count →
    (∀ op ∈ [StringOp.movsb, .movsw, .stosb, .stosw, .lodsb, .lodsw], ∃ t, exec (.rep op) s = .next t ∧
      t.reg .cx = 0 ∧ t.reg .flags = s.reg .flags ∧
      (op ∈ [StringOp.movsb, .lodsb] → t.reg .si = s.reg .si + BitVec.ofNat 16 count * pointerStep s 1) ∧
      (op ∈ [StringOp.movsw, .lodsw] → t.reg .si = s.reg .si + BitVec.ofNat 16 count * pointerStep s 2) ∧
      (op ∈ [StringOp.movsb, .stosb] → t.reg .di = s.reg .di + BitVec.ofNat 16 count * pointerStep s 1) ∧
      (op ∈ [StringOp.movsw, .stosw] → t.reg .di = s.reg .di + BitVec.ofNat 16 count * pointerStep s 2) ∧
      (op ∈ [StringOp.stosb, .stosw] → t.reg .si = s.reg .si) ∧
      (op ∈ [StringOp.lodsb, .lodsw] → t.reg .di = s.reg .di ∧ ∀ a, t.byteAt a = s.byteAt a)) ∧
    (∃ t, exec (.rep .movsb) s = .next t ∧
      ((∀ j k, j < count → k < count → elementAddr s .es (s.reg .di) j ≠ elementAddr s .ds (s.reg .si) k) →
        ∀ k, k < count → t.byteAt (elementAddr s .es (s.reg .di) k) = s.byteAt (elementAddr s .ds (s.reg .si) k)) ∧
      (∀ a, (∀ k, k < count → a ≠ elementAddr s .es (s.reg .di) k) → t.byteAt a = s.byteAt a)) ∧
    (∃ t, exec (.rep .stosb) s = .next t ∧
      (∀ k, k < count → t.byteAt (elementAddr s .es (s.reg .di) k) = s.reg8 .al) ∧
      (∀ a, (∀ k, k < count → a ≠ elementAddr s .es (s.reg .di) k) → t.byteAt a = s.byteAt a)) ∧
    (∃ t, exec (.rep .lodsb) s = .next t ∧ t.reg8 .ah = s.reg8 .ah ∧
      (∀ k, k + 1 = count → t.reg8 .al = s.byteAt (elementAddr s .ds (s.reg .si) k)))

/-! ## INT -/

/-- INT 21h by AH: 02h sends DL to the host or faults with IoError, 4Ch halts with AL as exit code. How the host's answers are held is the model's choice (log 6); what the step returned is read from the state it left (log 2). That function 02h changes nothing else is decision D19. -/
def Obligations.Int21CharacterAndExit : Prop :=
  ∀ s : State,
    (s.reg8 .ah = 0x02 → s.outAnswers.head? ≠ some .ioError → ∃ t, exec (.intImm8 0x21) s = .next t ∧
      t = { s with hostOut := s.hostOut ++ [s.reg8 .dl], outAnswers := s.outAnswers.tail }) ∧
    (s.reg8 .ah = 0x02 → s.outAnswers.head? = some .ioError → ∃ t, exec (.intImm8 0x21) s = .next t ∧
      FaultedWith s t .ioError [] ∧ t.outAnswers = s.outAnswers.tail) ∧
    (s.reg8 .ah = 0x4C → ∃ t, exec (.intImm8 0x21) s = .next t ∧
      t = { s with exitCode := some (s.reg8 .al), runState := .halted } ∧ t.stepReturn = .halted)

/-- INT 21h with AH = 09h sends the bytes at DS:DX up to the first 0x24, which is read and not sent, the offset wrapping in the segment; a refused byte faults with IoError, the bytes sent before it kept. The wrap of the offset and that nothing else changes are decision D19. -/
def Obligations.Int21SendsString : Prop :=
  ∀ (s : State) (count : Nat), s.reg8 .ah = 0x09 →
    let addr := fun k => phys (s.reg .ds) (s.reg .dx + BitVec.ofNat 16 k)
    let sent := (List.range count).map fun k => s.byteAt (addr k)
    let reads := (List.range (count + 1)).map fun k => Event.read (addr k) .byte
    (∀ k, k < count → s.byteAt (addr k) ≠ 0x24) → (∀ k, k < count → s.outAnswers[k]? ≠ some .ioError) →
    (s.byteAt (addr count) = 0x24 → ∃ t, exec (.intImm8 0x21) s = .next t ∧
      t = { s with hostOut := s.hostOut ++ sent, outAnswers := s.outAnswers.drop count, trace := s.trace ++ reads }) ∧
    (s.byteAt (addr count) ≠ 0x24 → s.outAnswers[count]? = some .ioError → ∃ t, exec (.intImm8 0x21) s = .next t ∧
      FaultedWith { s with hostOut := s.hostOut ++ sent } t .ioError reads ∧ t.outAnswers = s.outAnswers.drop (count + 1))

/-- INT 21h with AH = 09h is the dead end exactly when none of the 65536 offsets of the segment holds 0x24 and the host refuses no byte; the model stops there by name (log 7). The wrap of the offset, and so the dead end, is decision D19. -/
def Obligations.StringWithoutEndIsStuck : Prop :=
  ∀ s : State, s.reg8 .ah = 0x09 →
    (exec (.intImm8 0x21) s = .fault .outputStringNeverEnds ↔
      (∀ off : Word, s.byteAt (phys (s.reg .ds) off) ≠ 0x24) ∧ OutAnswer.ioError ∉ s.outAnswers)

/-- INT with no handler, and INT 21h with another AH: a fault with the number and AH when the parameter says fault, nothing at all when it says noop (log 4). A host handler whose effect is not given is refused by name; one whose effect is given does its actions in order, each as `ActsAs` says, from the state with that effect used up, and leaves the core Halted when it halts and as its actions left it otherwise (log 5). That INT pushes nothing and reads no vector is decision D17. -/
def Obligations.OtherInterruptsFollowParameter : Prop :=
  ∀ (s : State) (n : Byte),
    (n ≠ 0x21 ∧ n ∉ s.params.intHandlers ∨ n = 0x21 ∧ s.reg8 .ah ∉ [0x02, 0x09, 0x4C] →
      (s.params.unhandledInt = .fault → ∃ t, exec (.intImm8 n) s = .next t ∧
        FaultedWith s t (.unhandledInterrupt n (s.reg8 .ah)) []) ∧
      (s.params.unhandledInt = .noop → exec (.intImm8 n) s = .next s)) ∧
    (n ≠ 0x21 → n ∈ s.params.intHandlers → s.handlerEffects = [] →
      exec (.intImm8 n) s = .refused (.handlerEffectNotGiven n)) ∧
    (n ≠ 0x21 → n ∈ s.params.intHandlers → ∀ actions halts rest,
      s.handlerEffects = { actions := actions, halts := halts } :: rest →
      let t := actions.foldl State.handlerAct { s with handlerEffects := rest }
      exec (.intImm8 n) s = .next (if halts = true then { t with runState := .halted } else t)) ∧
    (∀ action, ActsAs s (s.handlerAct action) action)

/-! ## The whole machine -/

/-- Only the instructions of the table of 10_state.md R28 write a flag: every other one leaves the FLAGS word, unless it calls a host handler (log 5). That DIV and IDIV are among the others is decision D9 of the spec, which the model follows by log 8; that NOT is, its decision D12. That instructions the flag text does not mention write no flag is decision D31. -/
def Obligations.OnlyTableInstructionsWriteFlags : Prop :=
  ∀ (i : Instr) (s t : State), writesFlags i = false → NoHostHandler i s → exec i s = .next t →
    t.reg .flags = s.reg .flags

/-- The segment registers are written only by the instructions 10_state.md R31 names. -/
def Obligations.OnlyNamedInstructionsWriteSegments : Prop :=
  ∀ (i : Instr) (s t : State) (r : RegId), r ∈ [RegId.cs, .ds, .es, .ss] → writesSegment r i = false →
    NoHostHandler i s → exec i s = .next t → t.reg r = s.reg r

/-- Only DIV, IDIV and INT can end Faulted once decoded, with the kinds 60_exceptions.md R420 gives them, and only INT can stop the model. -/
def Obligations.OnlyDivideAndIntStop : Prop :=
  ∀ (i : Instr) (s : State), s.runState = .running →
    (∀ t, exec i s = .next t → t.runState = .faulted →
      (t.faultRecord = some .divideError ∧
        ∃ o8 o16, i ∈ [Instr.divRm8 o8, .divRm16 o16, .idivRm8 o8, .idivRm16 o16]) ∨
      (∃ n, i = .intImm8 n ∧
        (t.faultRecord = some .ioError ∧ n = 0x21 ∨
          t.faultRecord = some (.unhandledInterrupt n (s.reg8 .ah)) ∧ s.params.unhandledInt = .fault))) ∧
    (∀ f, exec i s = .fault f → i = .intImm8 0x21 ∧ s.reg8 .ah = 0x09) ∧
    (∀ f, exec i s = .refused f → ∃ n, i = .intImm8 n ∧ n ∈ s.params.intHandlers ∧ f = .handlerEffectNotGiven n)

/-- TF and IF are storage only: from two states that differ at most in them, a step does the same, and the states after it differ at most in them. That TF and IF have no effect is decision D22. -/
def Obligations.TrapAndInterruptFlagsAreInert : Prop :=
  ∀ s t : State, AgreeButTrapAndInterrupt s t → OutcomesRelated AgreeButTrapAndInterrupt (step s) (step t)

/-- The observer cannot alter semantics: from two states that differ at most in the trace, a step does the same, and the states after it differ at most in the trace. -/
def Obligations.TraceIsInert : Prop :=
  ∀ s t : State, AgreeButTrace s t → OutcomesRelated AgreeButTrace (step s) (step t)

end Statements
end

