-- ==== Sys2Proof/Laws/Bits.lean ====
section
/-! SUPPORT. Taking a word apart and putting it together (20_memory.md R67). -/

namespace Sys2Proof

theorem getLsbD_loByte (w : Word) (i : Nat) : (loByte w).getLsbD i = (decide (i < 8) && w.getLsbD i) := by
  simp [loByte, BitVec.getLsbD_extractLsb']

theorem getLsbD_hiByte (w : Word) (i : Nat) : (hiByte w).getLsbD i = (decide (i < 8) && w.getLsbD (8 + i)) := by
  simp [hiByte, BitVec.getLsbD_extractLsb']

theorem getLsbD_leWord (lo hi : Byte) (i : Nat) :
    (leWord lo hi).getLsbD i = if i < 8 then lo.getLsbD i else hi.getLsbD (i - 8) := by
  show (hi ++ lo : BitVec (8 + 8)).getLsbD i = _
  rw [BitVec.getLsbD_append]

@[simp] theorem loByte_leWord (lo hi : Byte) : loByte (leWord lo hi) = lo := by
  apply BitVec.eq_of_getLsbD_eq
  intro i h
  rw [getLsbD_loByte, getLsbD_leWord]
  simp [h]

@[simp] theorem hiByte_leWord (lo hi : Byte) : hiByte (leWord lo hi) = hi := by
  apply BitVec.eq_of_getLsbD_eq
  intro i h
  rw [getLsbD_hiByte, getLsbD_leWord, if_neg (by omega), Nat.add_sub_cancel_left]
  simp [h]

@[simp] theorem leWord_lo_hi (w : Word) : leWord (loByte w) (hiByte w) = w := by
  apply BitVec.eq_of_getLsbD_eq
  intro i h
  rw [getLsbD_leWord, getLsbD_loByte, getLsbD_hiByte]
  split
  · simp_all
  · have : 8 + (i - 8) = i := by omega
    rw [this]
    simp; omega

/-- Two words are equal when both their halves are. -/
theorem word_eq_of_bytes {v w : Word} (hl : loByte v = loByte w) (hh : hiByte v = hiByte w) : v = w := by
  rw [← leWord_lo_hi v, ← leWord_lo_hi w, hl, hh]

end Sys2Proof
end

