-- ==== Sys2Proof/Laws/Decode.lean ====
section
/-! SUPPORT. Reading back what the encoder writes, operand by operand (30_encoding.md R92 to R97). -/

namespace Sys2Proof

@[simp] theorem Reg16.ofBits_bits (r : Reg16) : Reg16.ofBits r.bits = r := by cases r <;> rfl
@[simp] theorem Reg8.ofBits_bits (r : Reg8) : Reg8.ofBits r.bits = r := by cases r <;> rfl
@[simp] theorem BaseIndex.ofBits_bits (b : BaseIndex) : BaseIndex.ofBits b.bits = b := by cases b <;> rfl
@[simp] theorem Reg16.bits_ofBits (n : BitVec 3) : (Reg16.ofBits n).bits = n := by revert n; decide
@[simp] theorem Reg8.bits_ofBits (n : BitVec 3) : (Reg8.ofBits n).bits = n := by revert n; decide
@[simp] theorem BaseIndex.bits_ofBits (n : BitVec 3) : (BaseIndex.ofBits n).bits = n := by revert n; decide

@[simp] theorem RegMem.map_map {α β γ : Type} (f : α → β) (g : β → γ) (o : RegMem α) :
    (o.map f).map g = o.map (g ∘ f) := by cases o <;> rfl

@[simp] theorem RegMem.map_ofBits_bits8 (o : Rm8) : (o.map Reg8.bits).map Reg8.ofBits = o := by
  cases o <;> simp [RegMem.map]
@[simp] theorem RegMem.map_ofBits_bits16 (o : Rm16) : (o.map Reg16.bits).map Reg16.ofBits = o := by
  cases o <;> simp [RegMem.map]
@[simp] theorem RegMem.map_bits_ofBits8 (o : RegMem (BitVec 3)) : (o.map Reg8.ofBits).map Reg8.bits = o := by
  cases o <;> simp [RegMem.map]
@[simp] theorem RegMem.map_bits_ofBits16 (o : RegMem (BitVec 3)) : (o.map Reg16.ofBits).map Reg16.bits = o := by
  cases o <;> simp [RegMem.map]

@[simp] theorem RegMem.wellFormed_map {α β : Type} (f : α → β) (o : RegMem α) : (o.map f).wellFormed = o.wellFormed := by
  cases o <;> rfl

/-! ## The fields of ModR/M (30_encoding.md R92) -/

@[simp] theorem top2_modRmByte (mod : BitVec 2) (reg rm : BitVec 3) : top2 (modRmByte mod reg rm) = mod := by
  revert mod reg rm; decide
@[simp] theorem mid3_modRmByte (mod : BitVec 2) (reg rm : BitVec 3) : mid3 (modRmByte mod reg rm) = reg := by
  revert mod reg rm; decide
@[simp] theorem low3_modRmByte (mod : BitVec 2) (reg rm : BitVec 3) : low3 (modRmByte mod reg rm) = rm := by
  revert mod reg rm; decide
@[simp] theorem modRmByte_fields (m : Byte) : modRmByte (top2 m) (mid3 m) (low3 m) = m := by
  revert m; decide

/-! ## Operands -/

@[simp] theorem Parsed.andThen_ok {α β : Type} (a : α) (bs : List Byte) (f : α → List Byte → Parsed β) :
    Parsed.andThen (.ok (a, bs)) f = f a bs := rfl

theorem takeRm_zero {rm : BitVec 3} (h : rm ≠ 6) (bs : List Byte) :
    takeRm 0 rm bs = .ok (.mem (.noDisp (BaseIndex.ofBits rm)), bs) := if_neg h

theorem takeWord_wordBytes (v : Word) (rest : List Byte) : takeWord (wordBytes v ++ rest) = .ok (v, rest) := by
  simp [wordBytes, takeWord]

theorem wordOperand_wordBytes (k : Word → Instr) (v : Word) (rest : List Byte) :
    wordOperand k (wordBytes v ++ rest) = .ok (k v, rest) := by
  rw [wordOperand, takeWord_wordBytes]; rfl

theorem farOperand_wordBytes (k : Word → Word → Instr) (off seg : Word) (rest : List Byte) :
    farOperand k ((wordBytes off ++ wordBytes seg) ++ rest) = .ok (k off seg, rest) := by
  rw [List.append_assoc, farOperand, takeWord_wordBytes]
  rw [Parsed.andThen_ok, takeWord_wordBytes]; rfl

/-- The r/m operand read back from its own bytes (30_encoding.md R93, R94). -/
theorem takeRm_rmBytes (reg : BitVec 3) (o : RegMem (BitVec 3)) (h : o.wellFormed = true) (rest : List Byte) :
    ∃ m tail, rmBytes reg o = m :: tail ∧ mid3 m = reg ∧ takeRm (top2 m) (low3 m) (tail ++ rest) = .ok (o, rest) := by
  cases o with
  | reg n => exact ⟨_, _, rfl, by simp, by simp [takeRm]⟩
  | mem m =>
    cases m with
    | noDisp b =>
      refine ⟨_, _, rfl, by simp, ?_⟩
      have hb : b.bits ≠ 6 := by cases b <;> first | decide | simp [RegMem.wellFormed, MemOperand.wellFormed] at h
      rw [top2_modRmByte, low3_modRmByte]
      rw [takeRm_zero hb, BaseIndex.ofBits_bits, List.nil_append]
    | disp8 b d => exact ⟨_, _, rfl, by simp, by simp [takeRm, takeByte, Parsed.andThen]⟩
    | disp16 b d =>
      refine ⟨_, _, rfl, by simp, ?_⟩
      rw [top2_modRmByte, low3_modRmByte]
      simp [takeRm, takeWord_wordBytes, Parsed.andThen]
    | direct d =>
      refine ⟨_, _, rfl, by simp, ?_⟩
      rw [top2_modRmByte, low3_modRmByte]
      simp [takeRm, takeWord_wordBytes, Parsed.andThen]

theorem modRm_rmBytes (k : BitVec 3 → RegMem (BitVec 3) → Instr) (reg : BitVec 3) (o : RegMem (BitVec 3))
    (h : o.wellFormed = true) (rest : List Byte) : modRm k (rmBytes reg o ++ rest) = .ok (k reg o, rest) := by
  obtain ⟨m, tail, e, hm, ht⟩ := takeRm_rmBytes reg o h rest
  rw [e, List.cons_append]
  show (takeRm (top2 m) (low3 m) (tail ++ rest)).andThen _ = _
  rw [ht, hm]; rfl

theorem rm8Reg8_bytes (k : Rm8 → Reg8 → Instr) (o : Rm8) (r : Reg8) (h : o.wellFormed = true) (rest : List Byte) :
    rm8Reg8 k (rm8Bytes r.bits o ++ rest) = .ok (k o r, rest) := by
  rw [rm8Reg8, rm8Bytes, modRm_rmBytes _ _ _ (by simpa using h)]
  rw [RegMem.map_ofBits_bits8, Reg8.ofBits_bits]

theorem reg8Rm8_bytes (k : Reg8 → Rm8 → Instr) (o : Rm8) (r : Reg8) (h : o.wellFormed = true) (rest : List Byte) :
    reg8Rm8 k (rm8Bytes r.bits o ++ rest) = .ok (k r o, rest) := by
  rw [reg8Rm8, rm8Bytes, modRm_rmBytes _ _ _ (by simpa using h)]
  rw [RegMem.map_ofBits_bits8, Reg8.ofBits_bits]

theorem rm16Reg16_bytes (k : Rm16 → Reg16 → Instr) (o : Rm16) (r : Reg16) (h : o.wellFormed = true) (rest : List Byte) :
    rm16Reg16 k (rm16Bytes r.bits o ++ rest) = .ok (k o r, rest) := by
  rw [rm16Reg16, rm16Bytes, modRm_rmBytes _ _ _ (by simpa using h)]
  rw [RegMem.map_ofBits_bits16, Reg16.ofBits_bits]

theorem reg16Rm16_bytes (k : Reg16 → Rm16 → Instr) (o : Rm16) (r : Reg16) (h : o.wellFormed = true) (rest : List Byte) :
    reg16Rm16 k (rm16Bytes r.bits o ++ rest) = .ok (k r o, rest) := by
  rw [reg16Rm16, rm16Bytes, modRm_rmBytes _ _ _ (by simpa using h)]
  rw [RegMem.map_ofBits_bits16, Reg16.ofBits_bits]

/-- A group opcode before the bytes of its operand: the tail the reg field selects runs on what follows. -/
theorem group_rmBytes (op : Byte) (select : BitVec 3 → Option GroupTail) (reg : BitVec 3) (k : GroupTail)
    (hs : select reg = some k) (o : RegMem (BitVec 3)) (h : o.wellFormed = true) (rest : List Byte) :
    group op select (rmBytes reg o ++ rest) = k o rest := by
  obtain ⟨m, tail, e, hm, ht⟩ := takeRm_rmBytes reg o h rest
  rw [e, List.cons_append]
  simp only [group, hm, hs, ht]
  rfl

theorem group_tailRm8 (op : Byte) (select : BitVec 3 → Option GroupTail) (reg : BitVec 3) (k : Rm8 → Instr)
    (hs : select reg = some (tailRm8 k)) (o : Rm8) (h : o.wellFormed = true) (rest : List Byte) :
    group op select (rm8Bytes reg o ++ rest) = .ok (k o, rest) := by
  rw [rm8Bytes, group_rmBytes op select reg _ hs _ (by simpa using h), tailRm8, RegMem.map_ofBits_bits8]

theorem group_tailRm16 (op : Byte) (select : BitVec 3 → Option GroupTail) (reg : BitVec 3) (k : Rm16 → Instr)
    (hs : select reg = some (tailRm16 k)) (o : Rm16) (h : o.wellFormed = true) (rest : List Byte) :
    group op select (rm16Bytes reg o ++ rest) = .ok (k o, rest) := by
  rw [rm16Bytes, group_rmBytes op select reg _ hs _ (by simpa using h), tailRm16, RegMem.map_ofBits_bits16]

theorem group_tailRm8Byte (op : Byte) (select : BitVec 3 → Option GroupTail) (reg : BitVec 3) (k : Rm8 → Byte → Instr)
    (hs : select reg = some (tailRm8Byte k)) (o : Rm8) (v : Byte) (h : o.wellFormed = true) (rest : List Byte) :
    group op select ((rm8Bytes reg o ++ [v]) ++ rest) = .ok (k o v, rest) := by
  rw [List.append_assoc, rm8Bytes, group_rmBytes op select reg _ hs _ (by simpa using h), tailRm8Byte,
    RegMem.map_ofBits_bits8]
  rfl

theorem group_tailRm16Byte (op : Byte) (select : BitVec 3 → Option GroupTail) (reg : BitVec 3) (k : Rm16 → Byte → Instr)
    (hs : select reg = some (tailRm16Byte k)) (o : Rm16) (v : Byte) (h : o.wellFormed = true) (rest : List Byte) :
    group op select ((rm16Bytes reg o ++ [v]) ++ rest) = .ok (k o v, rest) := by
  rw [List.append_assoc, rm16Bytes, group_rmBytes op select reg _ hs _ (by simpa using h), tailRm16Byte,
    RegMem.map_ofBits_bits16]
  rfl

theorem group_tailRm16Word (op : Byte) (select : BitVec 3 → Option GroupTail) (reg : BitVec 3) (k : Rm16 → Word → Instr)
    (hs : select reg = some (tailRm16Word k)) (o : Rm16) (v : Word) (h : o.wellFormed = true) (rest : List Byte) :
    group op select ((rm16Bytes reg o ++ wordBytes v) ++ rest) = .ok (k o v, rest) := by
  rw [List.append_assoc, rm16Bytes, group_rmBytes op select reg _ hs _ (by simpa using h), tailRm16Word,
    RegMem.map_ofBits_bits16, wordOperand_wordBytes]

/-! ## The other direction -/

/-- What `takeRm` read, written again (30_encoding.md R93, R94). -/
theorem rmBytes_takeRm {m : Byte} {bs rest : List Byte} {o : RegMem (BitVec 3)}
    (h : takeRm (top2 m) (low3 m) bs = .ok (o, rest)) :
    o.wellFormed = true ∧ rmBytes (mid3 m) o ++ rest = m :: bs := by
  have hm := modRmByte_fields m
  generalize top2 m = mod at *
  generalize low3 m = rm at *
  generalize mid3 m = reg at *
  subst hm
  have hmod : ∀ x : BitVec 2, x = 0 ∨ x = 1 ∨ x = 2 ∨ x = 3 := by decide
  replace hmod := hmod mod
  rcases hmod with rfl | rfl | rfl | rfl
  · by_cases h6 : rm = 6
    · subst h6
      match bs, h with
      | lo :: hi :: bs', h =>
        simp only [takeRm, takeWord, Parsed.andThen] at h
        cases h
        exact ⟨rfl, by simp [rmBytes, wordBytes]⟩
    · rw [takeRm_zero h6] at h
      cases h
      refine ⟨?_, by simp [rmBytes]⟩
      revert rm; decide
  · match bs, h with
    | d :: bs', h =>
      simp only [takeRm, takeByte, Parsed.andThen] at h
      cases h
      exact ⟨rfl, by simp [rmBytes]⟩
  · match bs, h with
    | lo :: hi :: bs', h =>
      simp only [takeRm, takeWord, Parsed.andThen] at h
      cases h
      exact ⟨rfl, by simp [rmBytes, wordBytes]⟩
  · simp only [takeRm] at h
    cases h
    exact ⟨rfl, by simp [rmBytes]⟩

end Sys2Proof
end

