-- ==== Sys2Proof/Laws/State.lean ====
section
/-! SUPPORT. What each basic update of State does to each field, so that no later proof unfolds a record update (10_state.md R20 to R41). -/

namespace Sys2Proof.Machine

/-! ## The register file -/

theorem RegFile.get_put (f : RegFile) (r q : RegId) (v : Word) :
    (f.put r v).get q = if q = r then v else f.get q := by
  cases r <;> cases q <;> rfl

@[simp] theorem storedWord_flags (v : Word) : storedWord .flags v = v &&& Config.flagsMask := rfl

@[simp] theorem storedWord_of_ne {r : RegId} (h : r ≠ .flags) (v : Word) : storedWord r v = v := by
  cases r <;> first | rfl | exact absurd rfl h

/-! ## Writing a register -/

@[simp] theorem State.reg_setReg (s : State) (r q : RegId) (v : Word) :
    (s.setReg r v).reg q = if q = r then storedWord r v else s.reg q :=
  RegFile.get_put ..

@[simp] theorem State.setReg_mem (s : State) (r : RegId) (v : Word) : (s.setReg r v).mem = s.mem := rfl
@[simp] theorem State.setReg_runState (s : State) (r : RegId) (v : Word) : (s.setReg r v).runState = s.runState := rfl
@[simp] theorem State.setReg_breakpoints (s : State) (r : RegId) (v : Word) : (s.setReg r v).breakpoints = s.breakpoints := rfl
@[simp] theorem State.setReg_bpResume (s : State) (r : RegId) (v : Word) : (s.setReg r v).bpResume = s.bpResume := rfl
@[simp] theorem State.setReg_faultRecord (s : State) (r : RegId) (v : Word) : (s.setReg r v).faultRecord = s.faultRecord := rfl
@[simp] theorem State.setReg_hostOut (s : State) (r : RegId) (v : Word) : (s.setReg r v).hostOut = s.hostOut := rfl
@[simp] theorem State.setReg_exitCode (s : State) (r : RegId) (v : Word) : (s.setReg r v).exitCode = s.exitCode := rfl
@[simp] theorem State.setReg_trace (s : State) (r : RegId) (v : Word) : (s.setReg r v).trace = s.trace := rfl
@[simp] theorem State.setReg_params (s : State) (r : RegId) (v : Word) : (s.setReg r v).params = s.params := rfl
@[simp] theorem State.setReg_outAnswers (s : State) (r : RegId) (v : Word) : (s.setReg r v).outAnswers = s.outAnswers := rfl
@[simp] theorem State.setReg_handlerEffects (s : State) (r : RegId) (v : Word) : (s.setReg r v).handlerEffects = s.handlerEffects := rfl
@[simp] theorem State.setReg_byteAt (s : State) (r : RegId) (v : Word) (a : PAddr) : (s.setReg r v).byteAt a = s.byteAt a := rfl

/-! ## Storing a byte without an event -/

@[simp] theorem State.putByte_regs (s : State) (a : PAddr) (b : Byte) : (s.putByte a b).regs = s.regs := rfl
@[simp] theorem State.putByte_runState (s : State) (a : PAddr) (b : Byte) : (s.putByte a b).runState = s.runState := rfl
@[simp] theorem State.putByte_breakpoints (s : State) (a : PAddr) (b : Byte) : (s.putByte a b).breakpoints = s.breakpoints := rfl
@[simp] theorem State.putByte_bpResume (s : State) (a : PAddr) (b : Byte) : (s.putByte a b).bpResume = s.bpResume := rfl
@[simp] theorem State.putByte_faultRecord (s : State) (a : PAddr) (b : Byte) : (s.putByte a b).faultRecord = s.faultRecord := rfl
@[simp] theorem State.putByte_hostOut (s : State) (a : PAddr) (b : Byte) : (s.putByte a b).hostOut = s.hostOut := rfl
@[simp] theorem State.putByte_exitCode (s : State) (a : PAddr) (b : Byte) : (s.putByte a b).exitCode = s.exitCode := rfl
@[simp] theorem State.putByte_trace (s : State) (a : PAddr) (b : Byte) : (s.putByte a b).trace = s.trace := rfl
@[simp] theorem State.putByte_params (s : State) (a : PAddr) (b : Byte) : (s.putByte a b).params = s.params := rfl
@[simp] theorem State.putByte_outAnswers (s : State) (a : PAddr) (b : Byte) : (s.putByte a b).outAnswers = s.outAnswers := rfl
@[simp] theorem State.putByte_handlerEffects (s : State) (a : PAddr) (b : Byte) : (s.putByte a b).handlerEffects = s.handlerEffects := rfl
@[simp] theorem State.reg_putByte (s : State) (a : PAddr) (b : Byte) (r : RegId) : (s.putByte a b).reg r = s.reg r := rfl

/-! ## An event -/

@[simp] theorem State.emit_regs (s : State) (e : Event) : (s.emit e).regs = s.regs := rfl
@[simp] theorem State.emit_mem (s : State) (e : Event) : (s.emit e).mem = s.mem := rfl
@[simp] theorem State.emit_runState (s : State) (e : Event) : (s.emit e).runState = s.runState := rfl
@[simp] theorem State.emit_breakpoints (s : State) (e : Event) : (s.emit e).breakpoints = s.breakpoints := rfl
@[simp] theorem State.emit_bpResume (s : State) (e : Event) : (s.emit e).bpResume = s.bpResume := rfl
@[simp] theorem State.emit_faultRecord (s : State) (e : Event) : (s.emit e).faultRecord = s.faultRecord := rfl
@[simp] theorem State.emit_hostOut (s : State) (e : Event) : (s.emit e).hostOut = s.hostOut := rfl
@[simp] theorem State.emit_exitCode (s : State) (e : Event) : (s.emit e).exitCode = s.exitCode := rfl
@[simp] theorem State.emit_params (s : State) (e : Event) : (s.emit e).params = s.params := rfl
@[simp] theorem State.emit_outAnswers (s : State) (e : Event) : (s.emit e).outAnswers = s.outAnswers := rfl
@[simp] theorem State.emit_handlerEffects (s : State) (e : Event) : (s.emit e).handlerEffects = s.handlerEffects := rfl
@[simp] theorem State.reg_emit (s : State) (e : Event) (r : RegId) : (s.emit e).reg r = s.reg r := rfl
@[simp] theorem State.emit_byteAt (s : State) (e : Event) (a : PAddr) : (s.emit e).byteAt a = s.byteAt a := rfl

/-! ## Taking a fault (60_exceptions.md R423) -/

@[simp] theorem State.raise_regs (s : State) (k : FaultKind) : (s.raise k).regs = s.regs := rfl
@[simp] theorem State.raise_mem (s : State) (k : FaultKind) : (s.raise k).mem = s.mem := rfl
@[simp] theorem State.raise_breakpoints (s : State) (k : FaultKind) : (s.raise k).breakpoints = s.breakpoints := rfl
@[simp] theorem State.raise_bpResume (s : State) (k : FaultKind) : (s.raise k).bpResume = s.bpResume := rfl
@[simp] theorem State.raise_hostOut (s : State) (k : FaultKind) : (s.raise k).hostOut = s.hostOut := rfl
@[simp] theorem State.raise_exitCode (s : State) (k : FaultKind) : (s.raise k).exitCode = s.exitCode := rfl
@[simp] theorem State.raise_trace (s : State) (k : FaultKind) : (s.raise k).trace = s.trace := rfl
@[simp] theorem State.raise_params (s : State) (k : FaultKind) : (s.raise k).params = s.params := rfl
@[simp] theorem State.raise_outAnswers (s : State) (k : FaultKind) : (s.raise k).outAnswers = s.outAnswers := rfl
@[simp] theorem State.raise_handlerEffects (s : State) (k : FaultKind) : (s.raise k).handlerEffects = s.handlerEffects := rfl
@[simp] theorem State.reg_raise (s : State) (k : FaultKind) (r : RegId) : (s.raise k).reg r = s.reg r := rfl
@[simp] theorem State.raise_byteAt (s : State) (k : FaultKind) (a : PAddr) : (s.raise k).byteAt a = s.byteAt a := rfl

/-! ## Halting -/

@[simp] theorem State.halt_regs (s : State) : (s.halt).regs = s.regs := rfl
@[simp] theorem State.halt_mem (s : State) : (s.halt).mem = s.mem := rfl
@[simp] theorem State.halt_breakpoints (s : State) : (s.halt).breakpoints = s.breakpoints := rfl
@[simp] theorem State.halt_bpResume (s : State) : (s.halt).bpResume = s.bpResume := rfl
@[simp] theorem State.halt_faultRecord (s : State) : (s.halt).faultRecord = s.faultRecord := rfl
@[simp] theorem State.halt_hostOut (s : State) : (s.halt).hostOut = s.hostOut := rfl
@[simp] theorem State.halt_exitCode (s : State) : (s.halt).exitCode = s.exitCode := rfl
@[simp] theorem State.halt_trace (s : State) : (s.halt).trace = s.trace := rfl
@[simp] theorem State.halt_params (s : State) : (s.halt).params = s.params := rfl
@[simp] theorem State.halt_outAnswers (s : State) : (s.halt).outAnswers = s.outAnswers := rfl
@[simp] theorem State.halt_handlerEffects (s : State) : (s.halt).handlerEffects = s.handlerEffects := rfl
@[simp] theorem State.reg_halt (s : State) (r : RegId) : (s.halt).reg r = s.reg r := rfl
@[simp] theorem State.halt_byteAt (s : State) (a : PAddr) : (s.halt).byteAt a = s.byteAt a := rfl
@[simp] theorem State.emit_trace (s : State) (e : Event) : (s.emit e).trace = s.trace ++ [e] := rfl
@[simp] theorem State.raise_runState (s : State) (k : FaultKind) : (s.raise k).runState = .faulted := rfl
@[simp] theorem State.raise_faultRecord (s : State) (k : FaultKind) : (s.raise k).faultRecord = some k := rfl
@[simp] theorem State.halt_runState (s : State) : s.halt.runState = .halted := rfl

/-! ## Register names -/

@[simp] theorem Reg16.id_ne_flags (r : Reg16) : Reg16.id r ≠ .flags := by cases r <;> decide
@[simp] theorem Reg16.id_ne_ip (r : Reg16) : Reg16.id r ≠ .ip := by cases r <;> decide
@[simp] theorem Sreg.id_ne_flags (r : Sreg) : Sreg.id r ≠ .flags := by cases r <;> decide
@[simp] theorem Reg8.parent_ne_flags (r : Reg8) : Reg8.parent r ≠ .flags := by cases r <;> decide
@[simp] theorem Reg8.parent_ne_ip (r : Reg8) : Reg8.parent r ≠ .ip := by cases r <;> decide
@[simp] theorem Reg8.parent_ne_sp (r : Reg8) : Reg8.parent r ≠ .sp := by cases r <;> decide

theorem Reg16.id_inj {r q : Reg16} : Reg16.id r = Reg16.id q ↔ r = q := by
  cases r <;> cases q <;> decide

end Sys2Proof.Machine
end

