-- ==== Sys2Proof/Laws/Memory.lean ====
section
/-! SUPPORT. Memory: a read after a write, and the canonical form every operation keeps (20_memory.md R61 to R66; log 15). -/

namespace Sys2Proof.Machine

/-! ## The list of cells -/

theorem Memory.read_erase (m : Memory) (x y : Nat) :
    (m.erase x).read y = if y = x then Config.unlistedByte else m.read y := by
  induction m with
  | nil => simp [Memory.erase, Memory.read]
  | cons c m ih =>
    obtain ⟨a, b⟩ := c
    simp only [Memory.erase, Memory.read]
    split
    · subst a; rw [ih]; split <;> simp_all [eq_comm]
    · simp only [Memory.read, ih]; split <;> split <;> simp_all

theorem Memory.read_insert {m : Memory} {x : Nat} (h : m.read x = Config.unlistedByte) (hm : ∀ c ∈ m, c.1 ≠ x)
    (v : Byte) (y : Nat) : (m.insert x v).read y = if y = x then v else m.read y := by
  induction m with
  | nil => simp [Memory.insert, Memory.read, eq_comm]
  | cons c m ih =>
    obtain ⟨a, b⟩ := c
    have hax : a ≠ x := hm (a, b) (by simp)
    simp only [Memory.insert]
    split
    · simp only [Memory.read, eq_comm (a := y)]
    · simp only [Memory.read, hax, if_false] at h
      simp only [Memory.read, ih h (fun c hc => hm c (by simp [hc]))]
      by_cases hy : a = y
      · subst hy; simp [hax]
      · simp [hy]

theorem Memory.mem_erase {m : Memory} {x : Nat} {c : Host.Cell} : c ∈ m.erase x ↔ c ∈ m ∧ c.1 ≠ x := by
  induction m with
  | nil => simp [Memory.erase]
  | cons d m ih =>
    obtain ⟨a, b⟩ := d
    simp only [Memory.erase]
    split
    · subst a; rw [ih]; constructor
      · rintro ⟨h, hx⟩; exact ⟨by simp [h], hx⟩
      · rintro ⟨h, hx⟩
        rcases List.mem_cons.1 h with rfl | h
        · exact absurd rfl hx
        · exact ⟨h, hx⟩
    · rw [List.mem_cons, ih, List.mem_cons]; constructor
      · rintro (rfl | ⟨h, hx⟩)
        · exact ⟨.inl rfl, ‹_›⟩
        · exact ⟨.inr h, hx⟩
      · rintro ⟨rfl | h, hx⟩
        · exact .inl rfl
        · exact .inr ⟨h, hx⟩

theorem Memory.mem_insert {m : Memory} {x : Nat} {v : Byte} {c : Host.Cell} :
    c ∈ m.insert x v ↔ c = (x, v) ∨ c ∈ m := by
  induction m with
  | nil => simp [Memory.insert]
  | cons d m ih =>
    obtain ⟨a, b⟩ := d
    simp only [Memory.insert]
    split
    · simp
    · simp only [List.mem_cons, ih]
      constructor <;> rintro (h | h | h) <;> simp [h]

/-- A byte read after a byte written. -/
theorem Memory.read_write (m : Memory) (x y : Nat) (v : Byte) :
    (m.write x v).read y = if y = x then v else m.read y := by
  unfold Memory.write
  split
  · rw [Memory.read_erase]; split <;> simp_all
  · rw [Memory.read_insert (by simp [Memory.read_erase]) (fun c hc => (Memory.mem_erase.1 hc).2), Memory.read_erase]
    split <;> simp_all

/-! ## The canonical form -/

theorem Memory.erase_wf {m : Memory} (h : m.wf) (x : Nat) : (m.erase x).wf := by
  refine ⟨?_, fun c hc => h.2 c (Memory.mem_erase.1 hc).1⟩
  have h1 := h.1
  clear h
  induction m with
  | nil => simp [Memory.erase]
  | cons c m ih =>
    obtain ⟨a, b⟩ := c
    simp only [List.pairwise_cons] at h1
    simp only [Memory.erase]
    split
    · exact ih h1.2
    · rw [List.pairwise_cons]
      exact ⟨fun d hd => h1.1 d (Memory.mem_erase.1 hd).1, ih h1.2⟩

theorem Memory.insert_wf {m : Memory} (h : m.wf) {x : Nat} (hx : x < Config.memBytes) {v : Byte}
    (hv : v ≠ Config.unlistedByte) (hm : ∀ c ∈ m, c.1 ≠ x) : (m.insert x v).wf := by
  refine ⟨?_, fun c hc => ?_⟩
  · have h1 := h.1
    clear h
    induction m with
    | nil => simp [Memory.insert]
    | cons c m ih =>
      obtain ⟨a, b⟩ := c
      simp only [List.pairwise_cons] at h1
      simp only [Memory.insert]
      split
      · rename_i hlt
        rw [List.pairwise_cons, List.pairwise_cons]
        refine ⟨fun d hd => ?_, h1⟩
        rcases List.mem_cons.1 hd with rfl | hd
        · exact hlt
        · exact Nat.lt_trans hlt (h1.1 d hd)
      · rename_i hlt
        have hax : a ≠ x := hm (a, b) (by simp)
        rw [List.pairwise_cons]
        refine ⟨fun d hd => ?_, ih (fun c hc => hm c (by simp [hc])) h1.2⟩
        rcases Memory.mem_insert.1 hd with rfl | hd
        · exact Nat.lt_of_le_of_ne (Nat.le_of_not_lt hlt) hax
        · exact h1.1 d hd
  · rcases Memory.mem_insert.1 hc with rfl | hc
    · exact ⟨hx, hv⟩
    · exact h.2 c hc

/-- A write keeps the canonical form. -/
theorem Memory.write_wf {m : Memory} (h : m.wf) {x : Nat} (hx : x < Config.memBytes) (v : Byte) : (m.write x v).wf := by
  unfold Memory.write
  split
  · exact Memory.erase_wf h x
  · rename_i hv
    exact Memory.insert_wf (Memory.erase_wf h x) hx hv (fun c hc => (Memory.mem_erase.1 hc).2)

theorem PAddr.toNat_lt (a : PAddr) : a.toNat < Config.memBytes := a.isLt

/-! ## Bytes and words of the state -/

@[simp] theorem State.byteAt_putByte (s : State) (a b : PAddr) (v : Byte) :
    (s.putByte a v).byteAt b = if b = a then v else s.byteAt b := by
  simp only [State.byteAt, State.putByte, Memory.read_write, BitVec.toNat_inj]

@[simp] theorem State.putByte_wf {s : State} (h : s.mem.wf) (a : PAddr) (v : Byte) : (s.putByte a v).mem.wf :=
  Memory.write_wf h (PAddr.toNat_lt a) v

theorem PAddr.add_one_ne (a : PAddr) : a + 1 ≠ a := by
  intro h
  have := congrArg BitVec.toNat h
  rw [BitVec.toNat_add] at this
  have h2 := a.isLt
  have h3 : (1 : PAddr).toNat = 1 := rfl
  omega

@[simp] theorem State.byteAt_putWord (s : State) (a b : PAddr) (v : Word) :
    (s.putWord a v).byteAt b = if b = a + 1 then hiByte v else if b = a then loByte v else s.byteAt b := by
  simp [State.putWord]

@[simp] theorem State.wordAt_putWord (s : State) (a : PAddr) (v : Word) : (s.putWord a v).wordAt a = v := by
  simp [State.wordAt]

theorem State.putWord_wf {s : State} (h : s.mem.wf) (a : PAddr) (v : Word) : (s.putWord a v).mem.wf :=
  State.putByte_wf (State.putByte_wf h _ _) _ _

/-- Everything but memory is kept by storing a word without an event. -/
theorem State.putWord_eq (s : State) (a : PAddr) (v : Word) :
    s.putWord a v = { s with mem := (s.putWord a v).mem } := rfl

theorem State.wordAt_congr {s t : State} (h : ∀ a, t.byteAt a = s.byteAt a) (a : PAddr) : t.wordAt a = s.wordAt a := by
  simp [State.wordAt, h]

/-- A word outside the bytes that changed reads as before. -/
theorem State.wordAt_kept {s t : State} {l : List PAddr} (h : ∀ a, a ∉ l → t.byteAt a = s.byteAt a) {a : PAddr}
    (h0 : a ∉ l) (h1 : a + 1 ∉ l) : t.wordAt a = s.wordAt a := by
  rw [State.wordAt, State.wordAt, h _ h0, h _ h1]

end Sys2Proof.Machine
end

