-- ==== Sys2Proof/Laws/Registers.lean ====
section
/-! SUPPORT. The 8-bit views and the single flags: what writing one does to the others (10_state.md R21, R24, R27, R29). -/

namespace Sys2Proof.Machine

/-! ## 8-bit views -/

theorem Reg8.ext_iff {r q : Reg8} : r = q ↔ Reg8.parent r = Reg8.parent q ∧ Reg8.isHigh r = Reg8.isHigh q := by
  cases r <;> cases q <;> decide

@[simp] theorem State.reg8_setReg (s : State) (q : RegId) (v : Word) (r : Reg8) (h : Reg8.parent r ≠ q) :
    (s.setReg q v).reg8 r = s.reg8 r := by
  simp [State.reg8, h]

/-- An 8-bit view after an 8-bit view was written. -/
theorem State.reg8_setReg8 (s : State) (q r : Reg8) (v : Byte) :
    (s.setReg8 q v).reg8 r = if r = q then v else s.reg8 r := by
  by_cases hp : Reg8.parent r = Reg8.parent q
  · cases hr : Reg8.isHigh r <;> cases hq : Reg8.isHigh q <;>
      simp [Reg8.ext_iff, State.reg8, State.setReg8, hp, hr, hq]
  · simp [Reg8.ext_iff, State.reg8, State.setReg8, hp]

@[simp] theorem State.reg8_setReg8_self (s : State) (r : Reg8) (v : Byte) : (s.setReg8 r v).reg8 r = v := by
  simp [State.reg8_setReg8]

@[simp] theorem State.reg_setReg8 (s : State) (r : Reg8) (v : Byte) (q : RegId) (h : q ≠ Reg8.parent r) :
    (s.setReg8 r v).reg q = s.reg q := by
  simp [State.setReg8, h]

/-- A register is its two 8-bit views. -/
theorem State.reg_eq_halves {s t : State} {lo hi : Reg8} (hp : Reg8.parent hi = Reg8.parent lo)
    (hl : Reg8.isHigh lo = false) (hh : Reg8.isHigh hi = true)
    (h0 : t.reg8 lo = s.reg8 lo) (h1 : t.reg8 hi = s.reg8 hi) : t.reg (Reg8.parent lo) = s.reg (Reg8.parent lo) := by
  simp only [State.reg8, hl, hh, if_true, hp] at h0 h1
  exact word_eq_of_bytes (by simpa using h0) h1

/-! ## Flags -/

theorem Flag.getLsbD_mask (f g : Flag) : f.mask.getLsbD g.bit = decide (g = f) := by
  cases f <;> cases g <;> decide

theorem Flag.getLsbD_flagsMask (g : Flag) : Config.flagsMask.getLsbD g.bit = true := by
  cases g <;> decide

theorem Flag.bit_lt (g : Flag) : g.bit < 16 := by
  cases g <;> decide

/-- One flag after one flag was written. -/
theorem State.flag_setFlag (s : State) (f g : Flag) (b : Bool) :
    (s.setFlag f b).flag g = if g = f then b else s.flag g := by
  unfold State.flag State.setFlag
  cases b <;> simp only [State.reg_setReg, if_true, Bool.false_eq_true, if_false, storedWord_flags, BitVec.getLsbD_and, BitVec.getLsbD_or,
    BitVec.getLsbD_not, Flag.getLsbD_mask, Flag.getLsbD_flagsMask, Flag.bit_lt, decide_true, Bool.and_true] <;>
    by_cases h : g = f <;> simp [h]

@[simp] theorem State.flag_setReg (s : State) (r : RegId) (v : Word) (g : Flag) (h : r ≠ .flags) :
    (s.setReg r v).flag g = s.flag g := by
  simp [State.flag, h.symm]

@[simp] theorem State.flag_setReg_flags (s : State) (v : Word) (g : Flag) :
    (s.setReg .flags v).flag g = v.getLsbD g.bit := by
  simp [State.flag, Flag.getLsbD_flagsMask]

@[simp] theorem State.flag_setReg8 (s : State) (r : Reg8) (v : Byte) (g : Flag) : (s.setReg8 r v).flag g = s.flag g := by
  simp [State.setReg8]

@[simp] theorem State.reg_setFlag (s : State) (f : Flag) (b : Bool) (r : RegId) (h : r ≠ .flags) :
    (s.setFlag f b).reg r = s.reg r := by
  simp [State.setFlag, h]

@[simp] theorem State.reg8_setFlag (s : State) (f : Flag) (b : Bool) (r : Reg8) : (s.setFlag f b).reg8 r = s.reg8 r := by
  simp [State.setFlag]

/-! ## Reserved bits (10_state.md R29) -/

theorem flagsReserved_storedWord (v : Word) : storedWord .flags v &&& ~~~Config.flagsMask = 0 := by
  rw [storedWord_flags, BitVec.and_assoc, show Config.flagsMask &&& ~~~Config.flagsMask = 0 by decide]
  simp

/-- Two FLAGS words with reserved bits 0 and the same nine flags are equal. -/
theorem flags_word_ext {v w : Word} (hv : v &&& ~~~Config.flagsMask = 0) (hw : w &&& ~~~Config.flagsMask = 0)
    (h : ∀ g : Flag, v.getLsbD g.bit = w.getLsbD g.bit) : v = w := by
  apply BitVec.eq_of_getLsbD_eq
  intro i hi
  by_cases hf : ∃ g : Flag, g.bit = i
  · obtain ⟨g, rfl⟩ := hf; exact h g
  · have key : (~~~Config.flagsMask).getLsbD i = true := by
      have h0 : ∀ k < 16, (∀ g : Flag, g.bit ≠ k) → (~~~Config.flagsMask).getLsbD k = true := by
        intro k hk hne
        have := hne .cf; have := hne .pf; have := hne .af; have := hne .zf; have := hne .sf
        have := hne .tf; have := hne .intf; have := hne .df; have := hne .of
        simp only [Flag.bit] at *
        rcases (by omega : k = 1 ∨ k = 3 ∨ k = 5 ∨ k = 12 ∨ k = 13 ∨ k = 14 ∨ k = 15) with
          rfl | rfl | rfl | rfl | rfl | rfl | rfl <;> decide
      exact h0 i hi (fun g hg => hf ⟨g, hg⟩)
    have hv' := congrArg (·.getLsbD i) hv
    have hw' := congrArg (·.getLsbD i) hw
    simp only [BitVec.getLsbD_and, key, Bool.and_true] at hv' hw'
    rw [hv', hw']

end Sys2Proof.Machine
end

