-- ==== Sys2Proof/Laws/Kept.lean ====
section
/-! SUPPORT. What each shared operation can change, as one footprint each, and how footprints compose: a frame is proved by citing these. -/

namespace Sys2Proof.Machine

theorem SameHost.refl (s : State) : SameHost s s := ⟨rfl, rfl, rfl, rfl, rfl, rfl, rfl, rfl, rfl⟩

theorem SameHost.trans {s t u : State} (h : SameHost s t) (k : SameHost t u) : SameHost s u :=
  ⟨k.1.trans h.1, k.2.trans h.2, k.3.trans h.3, k.4.trans h.4, k.5.trans h.5, k.6.trans h.6, k.7.trans h.7, k.8.trans h.8,
    k.9.trans h.9⟩

theorem Kept.refl (s : State) : Kept s s {} :=
  ⟨.refl s, fun _ _ _ _ => rfl, fun _ _ _ => rfl, fun _ _ => rfl, fun _ => rfl, id, fun _ _ => rfl, id⟩

theorem Kept.trans {s t u : State} {f g : Footprint} (h : Kept s t f) (k : Kept t u g) : Kept s u (f.and g) where
  host := h.host.trans k.host
  regs r h0 hr hh := by
    simp only [Footprint.and, List.mem_append, not_or] at hr hh
    rw [k.regs r h0 hr.2 (fun x hx => hh x (.inr hx)), h.regs r h0 hr.1 (fun x hx => hh x (.inl hx))]
  halves r hh hr := by
    simp only [Footprint.and, List.mem_append, not_or] at hr hh
    rw [k.halves r hh.2 hr.2, h.halves r hh.1 hr.1]
  flags x hx := by
    simp only [Footprint.and, List.mem_append, not_or] at hx
    rw [k.flags x hx.2, h.flags x hx.1]
  flagsWord hx := by
    simp only [Footprint.and, List.append_eq_nil_iff] at hx
    rw [k.flagsWord hx.2, h.flagsWord hx.1]
  flagsReserved := k.flagsReserved ∘ h.flagsReserved
  bytes a ha := by
    simp only [Footprint.and, List.mem_append, not_or] at ha
    rw [k.bytes a ha.2, h.bytes a ha.1]
  memWf := k.memWf ∘ h.memWf

/-- A larger footprint promises less. -/
theorem Kept.mono {s t : State} {f g : Footprint} (h : Kept s t f) (hr : f.regs ⊆ g.regs) (hh : f.halves ⊆ g.halves)
    (hf : f.flags ⊆ g.flags) (hb : f.bytes ⊆ g.bytes) : Kept s t g where
  host := h.host
  regs r h0 h1 h2 := h.regs r h0 (fun x => h1 (hr x)) (fun x hx => h2 x (hh hx))
  halves r h1 h2 := h.halves r (fun x => h1 (hh x)) (fun x => h2 (hr x))
  flags x hx := h.flags x (fun y => hx (hf y))
  flagsWord hx := h.flagsWord (List.subset_nil.1 (hx ▸ hf))
  flagsReserved := h.flagsReserved
  bytes a ha := h.bytes a (fun x => ha (hb x))
  memWf := h.memWf

/-! ## The basic operations -/

theorem kept_setReg (s : State) (r : RegId) (v : Word) (h : r ≠ .flags) : Kept s (s.setReg r v) { regs := [r] } where
  host := ⟨rfl, rfl, rfl, rfl, rfl, rfl, rfl, rfl, rfl⟩
  regs q _ hq _ := by simp at hq; simp [hq]
  halves q _ hq := by simp at hq; simp [hq]
  flags g _ := by simp [h]
  flagsWord _ := by simp [h.symm]
  flagsReserved hs := by
    unfold State.flagsReserved at *
    have : (s.setReg r v).regs.flags = s.regs.flags := State.reg_setReg s r .flags v |>.trans (by simp [h.symm]; rfl)
    rw [this, hs]
  bytes _ _ := rfl
  memWf := id

theorem kept_setReg8 (s : State) (r : Reg8) (v : Byte) : Kept s (s.setReg8 r v) { halves := [r] } where
  host := ⟨rfl, rfl, rfl, rfl, rfl, rfl, rfl, rfl, rfl⟩
  regs q _ _ hq := by simp at hq; simp [Ne.symm hq]
  halves q hq _ := by simp at hq; simp [State.reg8_setReg8, hq]
  flags g _ := by simp
  flagsWord _ := by simp [(Reg8.parent_ne_flags r).symm]
  flagsReserved := (kept_setReg s (Reg8.parent r) _ (Reg8.parent_ne_flags r)).flagsReserved
  bytes _ _ := rfl
  memWf := id

theorem kept_setFlag (s : State) (f : Flag) (b : Bool) : Kept s (s.setFlag f b) { flags := [f] } where
  host := ⟨rfl, rfl, rfl, rfl, rfl, rfl, rfl, rfl, rfl⟩
  regs q h _ _ := by simp [h]
  halves q _ _ := by simp
  flags g hg := by simp at hg; simp [State.flag_setFlag, hg]
  flagsWord h := by simp at h
  flagsReserved _ := flagsReserved_storedWord _
  bytes _ _ := rfl
  memWf := id

theorem kept_emit (s : State) (e : Event) : Kept s (s.emit e) {} :=
  ⟨⟨rfl, rfl, rfl, rfl, rfl, rfl, rfl, rfl, rfl⟩, fun _ _ _ _ => rfl, fun _ _ _ => rfl, fun _ _ => rfl, fun _ => rfl, id,
    fun _ _ => rfl, id⟩

theorem kept_putByte (s : State) (a : PAddr) (v : Byte) : Kept s (s.putByte a v) { bytes := [a] } where
  host := ⟨rfl, rfl, rfl, rfl, rfl, rfl, rfl, rfl, rfl⟩
  regs _ _ _ _ := rfl
  halves _ _ _ := rfl
  flags _ _ := rfl
  flagsWord _ := rfl
  flagsReserved := id
  bytes b hb := by simp at hb; simp [hb]
  memWf h := State.putByte_wf h a v

theorem kept_storeByte (s : State) (a : PAddr) (v : Byte) : Kept s (s.storeByte a v) { bytes := [a] } :=
  (kept_putByte s a v).trans (kept_emit _ _)

theorem kept_storeWord (s : State) (a : PAddr) (v : Word) : Kept s (s.storeWord a v) { bytes := [a, a + 1] } :=
  ((kept_putByte s a (loByte v)).trans (kept_putByte _ (a + 1) (hiByte v))).trans (kept_emit _ _)

/-- PUSH's shared operation: SP lowered, then the word stored at the new top (20_memory.md R70). -/
theorem State.push16_eq (s : State) (v : Word) :
    s.push16 v = (s.setReg .sp (s.reg .sp - 2)).storeWord (phys (s.reg .ss) (s.reg .sp - 2)) v := by
  show (s.setReg .sp (s.reg .sp - 2)).storeWord (s.setReg .sp (s.reg .sp - 2)).stackTop v = _
  rw [show (s.setReg .sp (s.reg .sp - 2)).stackTop = phys (s.reg .ss) (s.reg .sp - 2) by simp [State.stackTop]]

/-- What PUSH's shared operation changes: SP and the two bytes at the new top (20_memory.md R70). -/
theorem kept_push16 (s : State) (v : Word) :
    Kept s (s.push16 v)
      { regs := [.sp], bytes := [phys (s.reg .ss) (s.reg .sp - 2), phys (s.reg .ss) (s.reg .sp - 2) + 1] } := by
  rw [State.push16_eq]
  exact (kept_setReg s .sp _ (by decide)).trans (kept_storeWord _ _ v)

theorem kept_popped (s : State) : Kept s s.popped { regs := [.sp] } :=
  (kept_emit s _).trans (kept_setReg _ _ _ (by decide))

/-! ## Status flags -/

theorem kept_setStatusKeepCf (s : State) (x : Status) :
    Kept s (s.setStatusKeepCf x) { flags := [.pf, .af, .zf, .sf, .of] } :=
  ((((kept_setFlag s .pf x.pf).trans (kept_setFlag _ .af x.af)).trans (kept_setFlag _ .zf x.zf)).trans
    (kept_setFlag _ .sf x.sf)).trans (kept_setFlag _ .of x.of)

theorem kept_setStatus (s : State) (x : Status) : Kept s (s.setStatus x) { flags := statusFlags } :=
  (kept_setFlag s .cf x.cf).trans (kept_setStatusKeepCf _ x)

theorem State.flag_setStatusKeepCf (s : State) (x : Status) (g : Flag) :
    (s.setStatusKeepCf x).flag g =
      match g with
      | .pf => x.pf | .af => x.af | .zf => x.zf | .sf => x.sf | .of => x.of
      | .cf => s.flag .cf | .tf => s.flag .tf | .intf => s.flag .intf | .df => s.flag .df := by
  cases g <;> simp [State.setStatusKeepCf, State.flag_setFlag]

theorem State.flag_setStatus (s : State) (x : Status) (g : Flag) :
    (s.setStatus x).flag g =
      match g with
      | .cf => x.cf | .pf => x.pf | .af => x.af | .zf => x.zf | .sf => x.sf | .of => x.of
      | .tf => s.flag .tf | .intf => s.flag .intf | .df => s.flag .df := by
  cases g <;> simp [State.setStatus, State.flag_setStatusKeepCf, State.flag_setFlag]

@[simp] theorem State.trace_setFlag (s : State) (f : Flag) (b : Bool) : (s.setFlag f b).trace = s.trace := rfl
@[simp] theorem State.trace_setReg8 (s : State) (r : Reg8) (v : Byte) : (s.setReg8 r v).trace = s.trace := rfl
@[simp] theorem State.trace_setStatus (s : State) (x : Status) : (s.setStatus x).trace = s.trace := by
  simp [State.setStatus, State.setStatusKeepCf]
@[simp] theorem State.trace_setStatusKeepCf (s : State) (x : Status) : (s.setStatusKeepCf x).trace = s.trace := by
  simp [State.setStatusKeepCf]
@[simp] theorem State.byteAt_setFlag (s : State) (f : Flag) (b : Bool) (a : PAddr) : (s.setFlag f b).byteAt a = s.byteAt a := rfl
@[simp] theorem State.byteAt_setReg8 (s : State) (r : Reg8) (v : Byte) (a : PAddr) : (s.setReg8 r v).byteAt a = s.byteAt a := rfl
@[simp] theorem State.byteAt_setStatus (s : State) (x : Status) (a : PAddr) : (s.setStatus x).byteAt a = s.byteAt a := by
  simp [State.setStatus, State.setStatusKeepCf]
@[simp] theorem State.byteAt_setStatusKeepCf (s : State) (x : Status) (a : PAddr) :
    (s.setStatusKeepCf x).byteAt a = s.byteAt a := by simp [State.setStatusKeepCf]

@[simp] theorem State.reg_setStatusKeepCf (s : State) (x : Status) (r : RegId) (h : r ≠ .flags) :
    (s.setStatusKeepCf x).reg r = s.reg r := by simp [State.setStatusKeepCf, h]
@[simp] theorem State.reg_setStatus (s : State) (x : Status) (r : RegId) (h : r ≠ .flags) :
    (s.setStatus x).reg r = s.reg r := by simp [State.setStatus, h]
@[simp] theorem State.reg8_setStatusKeepCf (s : State) (x : Status) (r : Reg8) :
    (s.setStatusKeepCf x).reg8 r = s.reg8 r := by simp [State.setStatusKeepCf]
@[simp] theorem State.reg8_setStatus (s : State) (x : Status) (r : Reg8) :
    (s.setStatus x).reg8 r = s.reg8 r := by simp [State.setStatus]

end Sys2Proof.Machine
end

