-- ==== Sys2Proof/Laws/Operands.lean ====
section
/-! SUPPORT. Operand places: what is read back after a write, the events, and everything each shared operation over places can do (40_execution_cycle.md R148 to R152). -/

namespace Sys2Proof.Machine

/-! ## Nothing but the trace changed -/

theorem Kept.reg_eq {s t : State} (h : Kept s t {}) (r : RegId) : t.reg r = s.reg r := by
  by_cases hr : r = .flags
  · exact hr ▸ h.flagsWord rfl
  · exact h.regs r hr (by simp) (by simp)

theorem Kept.valueOf_eq {s t : State} (h : Kept s t {}) {n : Nat} (p : Place n) : t.valueOf p = s.valueOf p := by
  cases p with
  | reg8 r => exact h.halves r (by simp) (by simp)
  | reg r => exact h.reg_eq r
  | byteAt a => exact h.bytes a (by simp)
  | wordAt a => exact State.wordAt_congr (fun b => h.bytes b (by simp)) a

theorem kept_noteRead (s : State) {n : Nat} (p : Place n) : Kept s (s.noteRead p) {} := by
  cases p <;> first | exact Kept.refl s | exact kept_emit s _

theorem kept_note (s : State) {n : Nat} (p : Source n) : Kept s (p.note s) {} := by
  cases p with
  | place p => exact kept_noteRead s p
  | imm v => exact Kept.refl s

@[simp] theorem State.reg_noteRead (s : State) {n : Nat} (p : Place n) (r : RegId) : (s.noteRead p).reg r = s.reg r :=
  (kept_noteRead s p).reg_eq r
@[simp] theorem State.reg8_noteRead (s : State) {n : Nat} (p : Place n) (r : Reg8) : (s.noteRead p).reg8 r = s.reg8 r :=
  (kept_noteRead s p).halves r (by simp) (by simp)
@[simp] theorem State.flag_noteRead (s : State) {n : Nat} (p : Place n) (g : Flag) : (s.noteRead p).flag g = s.flag g :=
  (kept_noteRead s p).flags g (by simp)
@[simp] theorem State.byteAt_noteRead (s : State) {n : Nat} (p : Place n) (a : PAddr) :
    (s.noteRead p).byteAt a = s.byteAt a := (kept_noteRead s p).bytes a (by simp)
@[simp] theorem State.valueOf_noteRead (s : State) {m n : Nat} (p : Place m) (q : Place n) :
    (s.noteRead p).valueOf q = s.valueOf q := (kept_noteRead s p).valueOf_eq q
@[simp] theorem State.trace_noteRead (s : State) {n : Nat} (p : Place n) :
    (s.noteRead p).trace = s.trace ++ p.readEvents := by
  cases p <;> simp [State.noteRead, Place.readEvents]

@[simp] theorem State.reg_note (s : State) {n : Nat} (p : Source n) (r : RegId) : (p.note s).reg r = s.reg r :=
  (kept_note s p).reg_eq r
@[simp] theorem State.reg8_note (s : State) {n : Nat} (p : Source n) (r : Reg8) : (p.note s).reg8 r = s.reg8 r :=
  (kept_note s p).halves r (by simp) (by simp)
@[simp] theorem State.flag_note (s : State) {n : Nat} (p : Source n) (g : Flag) : (p.note s).flag g = s.flag g :=
  (kept_note s p).flags g (by simp)
@[simp] theorem State.byteAt_note (s : State) {n : Nat} (p : Source n) (a : PAddr) :
    (p.note s).byteAt a = s.byteAt a := (kept_note s p).bytes a (by simp)
@[simp] theorem State.valueOf_note (s : State) {m n : Nat} (p : Source m) (q : Place n) :
    (p.note s).valueOf q = s.valueOf q := (kept_note s p).valueOf_eq q
@[simp] theorem State.trace_note (s : State) {n : Nat} (p : Source n) :
    (p.note s).trace = s.trace ++ p.readEvents := by
  cases p <;> simp [Source.note, Source.readEvents]

/-! ## Writing a place -/

/-- The place is no FLAGS register: true of every operand of an instruction. -/
def Place.plain {n : Nat} : Place n → Prop
  | .reg r => r ≠ .flags
  | .reg8 _ | .byteAt _ | .wordAt _ => True

@[simp] theorem State.place8_plain (s : State) (o : Rm8) : (s.place8 o).plain := by cases o <;> trivial
@[simp] theorem State.place16_plain (s : State) (o : Rm16) : (s.place16 o).plain := by
  cases o with
  | reg r => exact Reg16.id_ne_flags r
  | mem m => trivial
@[simp] theorem Place.reg_plain (r : RegId) : (Place.reg r).plain ↔ r ≠ .flags := Iff.rfl
theorem Place.reg16_plain (r : Reg16) : (Place.reg (Reg16.id r)).plain := Reg16.id_ne_flags r
theorem Place.sreg_plain (r : Sreg) : (Place.reg (Sreg.id r)).plain := Sreg.id_ne_flags r
@[simp] theorem Place.reg8_plain (r : Reg8) : (Place.reg8 r).plain := trivial
@[simp] theorem Place.byteAt_plain (a : PAddr) : (Place.byteAt a).plain := trivial
@[simp] theorem Place.wordAt_plain (a : PAddr) : (Place.wordAt a).plain := trivial
@[simp] theorem placeAl_plain : placeAl.plain := trivial
@[simp] theorem placeAx_plain : placeAx.plain := by simp [placeAx]

theorem kept_writePlace (s : State) {n : Nat} (p : Place n) (h : p.plain) (v : BitVec n) :
    Kept s (s.writePlace p v) p.footprint := by
  cases p with
  | reg8 r => exact kept_setReg8 s r v
  | reg r => exact kept_setReg s r v h
  | byteAt a => exact kept_storeByte s a v
  | wordAt a => exact kept_storeWord s a v

@[simp] theorem State.byteAt_storeByte (s : State) (a b : PAddr) (v : Byte) :
    (s.storeByte a v).byteAt b = if b = a then v else s.byteAt b := State.byteAt_putByte s a b v

@[simp] theorem State.byteAt_storeWord (s : State) (a b : PAddr) (v : Word) :
    (s.storeWord a v).byteAt b = if b = a + 1 then hiByte v else if b = a then loByte v else s.byteAt b :=
  State.byteAt_putWord s a b v

@[simp] theorem State.wordAt_storeWord (s : State) (a : PAddr) (v : Word) : (s.storeWord a v).wordAt a = v :=
  State.wordAt_putWord s a v

@[simp] theorem State.valueOf_writePlace (s : State) {n : Nat} (p : Place n) (h : p.plain) (v : BitVec n) :
    (s.writePlace p v).valueOf p = v := by
  cases p with
  | reg8 r => exact State.reg8_setReg8_self s r v
  | reg r => exact (State.reg_setReg s r r v).trans (by rw [if_pos rfl, storedWord_of_ne h])
  | byteAt a => exact (State.byteAt_storeByte s a a v).trans (if_pos rfl)
  | wordAt a => exact State.wordAt_storeWord s a v

@[simp] theorem State.reg_storeByte (s : State) (a : PAddr) (v : Byte) (r : RegId) : (s.storeByte a v).reg r = s.reg r := rfl
@[simp] theorem State.reg_storeWord (s : State) (a : PAddr) (v : Word) (r : RegId) : (s.storeWord a v).reg r = s.reg r := rfl
@[simp] theorem State.reg8_storeByte (s : State) (a : PAddr) (v : Byte) (r : Reg8) : (s.storeByte a v).reg8 r = s.reg8 r := rfl
@[simp] theorem State.reg8_storeWord (s : State) (a : PAddr) (v : Word) (r : Reg8) : (s.storeWord a v).reg8 r = s.reg8 r := rfl
@[simp] theorem State.flag_storeByte (s : State) (a : PAddr) (v : Byte) (g : Flag) : (s.storeByte a v).flag g = s.flag g := rfl
@[simp] theorem State.flag_storeWord (s : State) (a : PAddr) (v : Word) (g : Flag) : (s.storeWord a v).flag g = s.flag g := rfl

@[simp] theorem State.trace_storeByte (s : State) (a : PAddr) (v : Byte) :
    (s.storeByte a v).trace = s.trace ++ [.write a .byte (v.setWidth 16)] := rfl
@[simp] theorem State.trace_storeWord (s : State) (a : PAddr) (v : Word) :
    (s.storeWord a v).trace = s.trace ++ [.write a .word v] := rfl

@[simp] theorem State.trace_writePlace (s : State) {n : Nat} (p : Place n) (v : BitVec n) :
    (s.writePlace p v).trace = s.trace ++ p.writeEvents v := by
  cases p <;> simp [State.writePlace, Place.writeEvents]

@[simp] theorem State.flag_writePlace (s : State) {n : Nat} (p : Place n) (h : p.plain) (v : BitVec n) (g : Flag) :
    (s.writePlace p v).flag g = s.flag g := by
  refine (kept_writePlace s p h v).flags g ?_
  cases p <;> simp [Place.footprint]

/-- Flags written afterwards do not show in a place. -/
theorem Kept.valueOf_flags {s t : State} {l : List Flag} (h : Kept s t { flags := l }) {n : Nat} (p : Place n) (hp : p.plain) :
    t.valueOf p = s.valueOf p := by
  cases p with
  | reg8 r => exact h.halves r (by simp) (by simp)
  | reg r => exact h.regs r hp (by simp) (by simp)
  | byteAt a => exact h.bytes a (by simp)
  | wordAt a => exact State.wordAt_congr (fun b => h.bytes b (by simp)) a

@[simp] theorem State.valueOf_setFlag (s : State) (f : Flag) (b : Bool) {n : Nat} (p : Place n) (h : p.plain) :
    (s.setFlag f b).valueOf p = s.valueOf p := (kept_setFlag s f b).valueOf_flags p h
@[simp] theorem State.valueOf_setStatus (s : State) (x : Status) {n : Nat} (p : Place n) (h : p.plain) :
    (s.setStatus x).valueOf p = s.valueOf p := (kept_setStatus s x).valueOf_flags p h
@[simp] theorem State.valueOf_setStatusKeepCf (s : State) (x : Status) {n : Nat} (p : Place n) (h : p.plain) :
    (s.setStatusKeepCf x).valueOf p = s.valueOf p := (kept_setStatusKeepCf s x).valueOf_flags p h

@[simp] theorem Footprint.nil_and (f : Footprint) : Footprint.and {} f = f := by simp [Footprint.and]
@[simp] theorem Footprint.and_nil (f : Footprint) : Footprint.and f {} = f := by simp [Footprint.and]

/-! ## Everything the shared operations over places can do -/

theorem hasStatus_setStatus (s : State) (x : Status) : HasStatus (s.setStatus x) x := by
  constructor <;> simp [State.flag_setStatus]

/-- MOV (42_data_transfer.md R190 to R196). -/
theorem move_spec (s : State) {n : Nat} (dst : Place n) (h : dst.plain) (src : Source n) :
    (s.move dst src).valueOf dst = src.value s ∧ Kept s (s.move dst src) dst.footprint ∧
      (s.move dst src).trace = s.trace ++ src.readEvents ++ dst.writeEvents (src.value s) := by
  refine ⟨by simp [State.move, h], ?_, by simp [State.move]⟩
  simpa [State.move] using (kept_note s src).trans (kept_writePlace _ dst h (src.value s))

/-- An ALU instruction that writes its result (43_arithmetic.md R220 to R224; 44_logic.md R250 to R252). -/
theorem alu_spec (s : State) {n : Nat} (op : AluOp) (hop : aluWrites op = true) (dst : Place n) (h : dst.plain) (src : Source n) :
    let out := aluOut op (s.valueOf dst) (src.value s) (s.flag .cf)
    (s.alu op dst src).valueOf dst = out.result ∧ HasStatus (s.alu op dst src) out.status ∧
      Kept s (s.alu op dst src) (dst.footprint.and { flags := statusFlags }) ∧
      (s.alu op dst src).trace = s.trace ++ dst.readEvents ++ src.readEvents ++ dst.writeEvents out.result := by
  intro out
  have e : s.alu op dst src = ((src.note (s.noteRead dst)).writePlace dst out.result).setStatus out.status := by
    simp [State.alu, hop, out]
  rw [e]
  refine ⟨by simp [h], hasStatus_setStatus _ _, ?_, by simp⟩
  simpa using (((kept_noteRead s dst).trans (kept_note _ src)).trans (kept_writePlace _ dst h out.result)).trans
    (kept_setStatus _ out.status)

/-- CMP (43_arithmetic.md R225): the flags, and no result. -/
theorem cmp_spec (s : State) {n : Nat} (dst : Place n) (src : Source n) :
    HasStatus (s.alu .cmp dst src) (subN (s.valueOf dst) (src.value s) false).status ∧
      Kept s (s.alu .cmp dst src) { flags := statusFlags } ∧
      (s.alu .cmp dst src).trace = s.trace ++ dst.readEvents ++ src.readEvents := by
  have e : s.alu .cmp dst src =
      (src.note (s.noteRead dst)).setStatus (subN (s.valueOf dst) (src.value s) false).status := by
    simp [State.alu, aluWrites, aluOut]
  rw [e]
  refine ⟨hasStatus_setStatus _ _, ?_, by simp⟩
  simpa using ((kept_noteRead s dst).trans (kept_note _ src)).trans (kept_setStatus _ _)

/-- TEST (44_logic.md R253). -/
theorem test_spec (s : State) {n : Nat} (dst : Place n) (src : Source n) :
    HasStatus (s.test dst src) (logicN (s.valueOf dst &&& src.value s)).status ∧
      Kept s (s.test dst src) { flags := statusFlags } ∧
      (s.test dst src).trace = s.trace ++ dst.readEvents ++ src.readEvents := by
  refine ⟨hasStatus_setStatus _ _, ?_, by simp [State.test]⟩
  simpa [State.test] using ((kept_noteRead s dst).trans (kept_note _ src)).trans (kept_setStatus _ _)

/-- Reading a place and writing a value back to it. -/
theorem readWrite_spec (s : State) {n : Nat} (p : Place n) (h : p.plain) (v : BitVec n) :
    ((s.noteRead p).writePlace p v).valueOf p = v ∧ Kept s ((s.noteRead p).writePlace p v) p.footprint ∧
      ((s.noteRead p).writePlace p v).trace = s.trace ++ p.readEvents ++ p.writeEvents v :=
  ⟨by simp [h], by simpa using (kept_noteRead s p).trans (kept_writePlace _ p h v), by simp⟩

/-- NEG, and any instruction that writes one place and all six status flags. -/
theorem neg_spec (s : State) {n : Nat} (p : Place n) (h : p.plain) :
    (s.neg p).valueOf p = (negN (s.valueOf p)).result ∧ HasStatus (s.neg p) (negN (s.valueOf p)).status ∧
      Kept s (s.neg p) (p.footprint.and { flags := statusFlags }) ∧
      (s.neg p).trace = s.trace ++ p.readEvents ++ p.writeEvents (negN (s.valueOf p)).result := by
  refine ⟨by simp [State.neg, h], hasStatus_setStatus _ _, ?_, by simp [State.neg]⟩
  exact (readWrite_spec s p h _).2.1.trans (kept_setStatus _ _)

/-- INC and DEC: five flags, CF kept (41_alu_flags.md R175). -/
theorem keepCf_spec (s : State) {n : Nat} (p : Place n) (h : p.plain) (out : AluOut n) :
    let t := ((s.noteRead p).writePlace p out.result).setStatusKeepCf out.status
    t.valueOf p = out.result ∧ HasStatus t { out.status with cf := s.flag .cf } ∧
      Kept s t (p.footprint.and { flags := [.pf, .af, .zf, .sf, .of] }) ∧
      t.trace = s.trace ++ p.readEvents ++ p.writeEvents out.result := by
  refine ⟨by simp [h], ?_, (readWrite_spec s p h _).2.1.trans (kept_setStatusKeepCf _ _), by simp⟩
  constructor <;> simp [State.flag_setStatusKeepCf, h]

/-- NOT (44_logic.md R254). -/
theorem not_spec (s : State) {n : Nat} (p : Place n) (h : p.plain) :
    (s.not p).valueOf p = ~~~s.valueOf p ∧ Kept s (s.not p) p.footprint ∧
      (s.not p).trace = s.trace ++ p.readEvents ++ p.writeEvents (~~~s.valueOf p) :=
  readWrite_spec s p h _

end Sys2Proof.Machine
end

