-- ==== Sys2Proof/Laws/Division.lean ====
section
/-! SUPPORT. What a division answers: a fault when the divisor is 0 or the quotient does not fit, else quotient and remainder (46_mul_div_convert.md R302, R303). -/

namespace Sys2Proof.Machine

theorem div8_fault (s : State) (p : Place 8)
    (h : (s.valueOf p).toNat = 0 ∨ (s.reg .ax).toNat / (s.valueOf p).toNat > 0xFF) :
    s.div8 p = .next ((s.noteRead p).raise .divideError) := by
  rcases h with h | h
  · simp [State.div8, h]
  · by_cases hz : (s.valueOf p).toNat = 0
    · simp [State.div8, hz]
    · simp only [State.div8]; rw [if_neg hz, if_pos h]

theorem div8_ok (s : State) (p : Place 8) (h0 : (s.valueOf p).toNat ≠ 0)
    (h : (s.reg .ax).toNat / (s.valueOf p).toNat ≤ 0xFF) :
    s.div8 p = .next (((s.noteRead p).setReg8 .al (BitVec.ofNat 8 ((s.reg .ax).toNat / (s.valueOf p).toNat))).setReg8 .ah
      (BitVec.ofNat 8 ((s.reg .ax).toNat % (s.valueOf p).toNat))) := by
  simp only [State.div8]; rw [if_neg h0, if_neg (Nat.not_lt.mpr h)]

theorem div16_fault (s : State) (p : Place 16)
    (h : (s.valueOf p).toNat = 0 ∨ s.dxAx.toNat / (s.valueOf p).toNat > 0xFFFF) :
    s.div16 p = .next ((s.noteRead p).raise .divideError) := by
  rcases h with h | h
  · simp [State.div16, h]
  · by_cases hz : (s.valueOf p).toNat = 0
    · simp [State.div16, hz]
    · simp only [State.div16]; rw [if_neg hz, if_pos h]

theorem div16_ok (s : State) (p : Place 16) (h0 : (s.valueOf p).toNat ≠ 0)
    (h : s.dxAx.toNat / (s.valueOf p).toNat ≤ 0xFFFF) :
    s.div16 p = .next (((s.noteRead p).setReg .ax (BitVec.ofNat 16 (s.dxAx.toNat / (s.valueOf p).toNat))).setReg .dx
      (BitVec.ofNat 16 (s.dxAx.toNat % (s.valueOf p).toNat))) := by
  simp only [State.div16]; rw [if_neg h0, if_neg (Nat.not_lt.mpr h)]

theorem idiv8_fault (s : State) (p : Place 8)
    (h : (s.valueOf p).toInt = 0 ∨ (s.reg .ax).toInt.tdiv (s.valueOf p).toInt > 127 ∨
      (s.reg .ax).toInt.tdiv (s.valueOf p).toInt < -127) :
    s.idiv8 p = .next ((s.noteRead p).raise .divideError) := by
  rcases h with h | h
  · simp [State.idiv8, h]
  · by_cases hz : (s.valueOf p).toInt = 0
    · simp [State.idiv8, hz]
    · simp only [State.idiv8]; rw [if_neg hz, if_pos h]

theorem idiv8_ok (s : State) (p : Place 8) (h0 : (s.valueOf p).toInt ≠ 0)
    (hu : (s.reg .ax).toInt.tdiv (s.valueOf p).toInt ≤ 127) (hl : -127 ≤ (s.reg .ax).toInt.tdiv (s.valueOf p).toInt) :
    s.idiv8 p = .next (((s.noteRead p).setReg8 .al (BitVec.ofInt 8 ((s.reg .ax).toInt.tdiv (s.valueOf p).toInt))).setReg8 .ah
      (BitVec.ofInt 8 ((s.reg .ax).toInt - (s.reg .ax).toInt.tdiv (s.valueOf p).toInt * (s.valueOf p).toInt))) := by
  simp only [State.idiv8]; rw [if_neg h0, if_neg (by omega)]

theorem idiv16_fault (s : State) (p : Place 16)
    (h : (s.valueOf p).toInt = 0 ∨ s.dxAx.toInt.tdiv (s.valueOf p).toInt > 32767 ∨
      s.dxAx.toInt.tdiv (s.valueOf p).toInt < -32767) :
    s.idiv16 p = .next ((s.noteRead p).raise .divideError) := by
  rcases h with h | h
  · simp [State.idiv16, h]
  · by_cases hz : (s.valueOf p).toInt = 0
    · simp [State.idiv16, hz]
    · simp only [State.idiv16]; rw [if_neg hz, if_pos h]

theorem idiv16_ok (s : State) (p : Place 16) (h0 : (s.valueOf p).toInt ≠ 0)
    (hu : s.dxAx.toInt.tdiv (s.valueOf p).toInt ≤ 32767) (hl : -32767 ≤ s.dxAx.toInt.tdiv (s.valueOf p).toInt) :
    s.idiv16 p = .next (((s.noteRead p).setReg .ax (BitVec.ofInt 16 (s.dxAx.toInt.tdiv (s.valueOf p).toInt))).setReg .dx
      (BitVec.ofInt 16 (s.dxAx.toInt - s.dxAx.toInt.tdiv (s.valueOf p).toInt * (s.valueOf p).toInt))) := by
  simp only [State.idiv16]; rw [if_neg h0, if_neg (by omega)]

/-- DX:AX as a natural number (R302). -/
theorem State.dxAx_toNat (s : State) : s.dxAx.toNat = (s.reg .dx).toNat * 65536 + (s.reg .ax).toNat := by
  have hx := (s.reg .ax).isLt
  have hd := (s.reg .dx).isLt
  unfold State.dxAx
  rw [BitVec.toNat_append, Nat.shiftLeft_eq, Nat.mul_comm, ← Nat.two_pow_add_eq_or_of_lt hx]

/-- DX:AX as a signed number (R303). -/
theorem State.dxAx_toInt (s : State) : s.dxAx.toInt = (s.reg .dx).toInt * 65536 + (s.reg .ax).toNat := by
  have hx := (s.reg .ax).isLt
  have hd := (s.reg .dx).isLt
  rw [BitVec.toInt_eq_toNat_cond, BitVec.toInt_eq_toNat_cond, s.dxAx_toNat]
  split <;> split <;> omega

end Sys2Proof.Machine
end

