-- ==== Sys2Proof/Laws/Shift.lean ====
section
/-! SUPPORT. Everything a shift or rotate can do (45_shift_rotate.md R270). -/

namespace Sys2Proof.Machine

/-- The flags a shift writes from its result. -/
def shiftWritten (op : ShiftOp) (count : Nat) : List Flag :=
  if count = 0 then []
  else [.cf] ++ (if count = 1 then [.of] else []) ++ (if shiftSetsZsp op then [.zf, .sf, .pf] else [])

/-- The three flags ZF, SF and PF written from a value. -/
def State.setZsp (s : State) {n : Nat} (x : BitVec n) : State :=
  ((s.setFlag .zf (x == 0)).setFlag .sf x.msb).setFlag .pf (parity8 x)

theorem kept_setZsp (s : State) {n : Nat} (x : BitVec n) : Kept s (s.setZsp x) { flags := [.zf, .sf, .pf] } :=
  ((kept_setFlag s .zf _).trans (kept_setFlag _ .sf _)).trans (kept_setFlag _ .pf _)

/-- The shift in its three stages: operand, CF and the result flags, OF. -/
theorem State.shift_eq (s : State) {n : Nat} (op : ShiftOp) (p : Place n) (count : Nat) :
    s.shift op p count =
      let a := s.valueOf p
      let c := s.flag .cf
      let out := shiftSteps op count a c
      let s1 := (s.noteRead p).writePlace p out.1
      if count = 0 then s1
      else
        let s3 := if shiftSetsZsp op then (s1.setFlag .cf out.2).setZsp out.1 else s1.setFlag .cf out.2
        if count = 1 then s3.setFlag .of (shiftOf op a c out.1 out.2) else s3 := rfl

theorem shift_spec (s : State) {n : Nat} (op : ShiftOp) (p : Place n) (h : p.plain) (count : Nat) :
    let out := shiftSteps op count (s.valueOf p) (s.flag .cf)
    let t := s.shift op p count
    t.valueOf p = out.1 ∧ t.flag .cf = out.2 ∧
      (count = 1 → t.flag .of = shiftOf op (s.valueOf p) (s.flag .cf) out.1 out.2) ∧
      (shiftSetsZsp op = true → count ≠ 0 →
        t.flag .zf = (out.1 == 0) ∧ t.flag .sf = out.1.msb ∧ t.flag .pf = parity8 out.1) ∧
      Kept s t (p.footprint.and { flags := shiftWritten op count }) ∧
      t.trace = s.trace ++ p.readEvents ++ p.writeEvents out.1 := by
  intro out t
  have ht : t = s.shift op p count := rfl
  rw [State.shift_eq] at ht
  have hk := (readWrite_spec s p h out.1).2.1
  by_cases h0 : count = 0
  · subst h0
    simp only [if_true] at ht
    rw [ht]
    refine ⟨by simp [h]; rfl, by simp [h]; rfl, by simp, by simp, ?_, by simp; rfl⟩
    simpa [shiftWritten] using hk
  · simp only [h0, if_false] at ht
    by_cases h1 : count = 1 <;> by_cases hz : shiftSetsZsp op = true <;>
      simp only [h1, if_true, if_false, hz, Bool.false_eq_true] at ht <;> rw [ht]
    · refine ⟨?_, ?_, ?_, ?_, ?_, ?_⟩
      · simp [State.setZsp, h]; rw [← h1]
      · simp [State.setZsp, State.flag_setFlag]; rw [← h1]
      · intro _; simp [State.flag_setFlag]; rw [← h1]
      · intro _ _; simp [State.setZsp, State.flag_setFlag]; rw [← h1]; exact ⟨by rfl, rfl, rfl⟩
      · rw [← h1]
        refine (((hk.trans (kept_setFlag _ .cf _)).trans (kept_setZsp _ _)).trans (kept_setFlag _ .of _)).mono ?_ ?_ ?_ ?_ <;>
          simp [Footprint.and, shiftWritten, h1, hz]
      · simp [State.setZsp]; rw [← h1]
    · refine ⟨?_, ?_, ?_, ?_, ?_, ?_⟩
      · simp [h]; rw [← h1]
      · simp [State.flag_setFlag]; rw [← h1]
      · intro _; simp [State.flag_setFlag]; rw [← h1]
      · intro hh; exact absurd hh hz
      · rw [← h1]
        refine ((hk.trans (kept_setFlag _ .cf _)).trans (kept_setFlag _ .of _)).mono ?_ ?_ ?_ ?_ <;>
          simp [Footprint.and, shiftWritten, h1, hz]
      · simp; rw [← h1]
    · refine ⟨by simp [State.setZsp, h]; rfl, by simp [State.setZsp, State.flag_setFlag]; rfl, fun hh => absurd hh h1, ?_, ?_, by simp [State.setZsp]; rfl⟩
      · intro _ _; simp [State.setZsp, State.flag_setFlag]; exact ⟨by rfl, rfl, rfl⟩
      · refine ((hk.trans (kept_setFlag _ .cf _)).trans (kept_setZsp _ _)).mono ?_ ?_ ?_ ?_ <;>
          simp [Footprint.and, shiftWritten, h0, h1, hz]
    · refine ⟨by simp [h]; rfl, by simp [State.flag_setFlag]; rfl, fun hh => absurd hh h1, fun hh => absurd hh hz, ?_, by simp; rfl⟩
      refine (hk.trans (kept_setFlag _ .cf _)).mono ?_ ?_ ?_ ?_ <;> simp [Footprint.and, shiftWritten, h0, h1, hz]

end Sys2Proof.Machine
end

