-- ==== Sys2Proof/Laws/Exec.lean ====
section
/-! SUPPORT. What each instruction's meaning can change, by family: every instruction but DIV, IDIV, INT and HLT completes from every state and changes only registers, flags, memory and the trace. -/

namespace Sys2Proof.Machine

/-! ## Data transfer and control transfer -/

theorem kept_pushPlace (s : State) (p : Place 16) :
    Kept s (s.pushPlace p)
      { regs := [.sp], bytes := [phys (s.reg .ss) (s.reg .sp - 2), phys (s.reg .ss) (s.reg .sp - 2) + 1] } := by
  have h := (kept_noteRead s p).trans (kept_push16 (s.noteRead p) (s.valueOf p))
  rw [State.reg_noteRead, State.reg_noteRead] at h
  exact h

theorem kept_popPlace (s : State) (p : Place 16) (h : p.plain) :
    Kept s (s.popPlace p) (Footprint.and { regs := [.sp] } p.footprint) :=
  (kept_popped s).trans (kept_writePlace _ p h _)

theorem kept_jumpRel (s : State) (d : Word) : Kept s (s.jumpRel d) { regs := [.ip] } := kept_setReg s .ip _ (by decide)

theorem kept_jumpFar (s : State) (off seg : Word) : Kept s (s.jumpFar off seg) { regs := [.ip, .cs] } :=
  (kept_setReg s .ip off (by decide)).trans (kept_setReg _ .cs seg (by decide))

theorem kept_jumpIf (s : State) (c : Cond) (d : Byte) : Kept s (s.jumpIf c d) { regs := [.ip] } := by
  unfold State.jumpIf
  split
  · exact kept_jumpRel s _
  · exact (Kept.refl s).mono (by simp) (by simp) (by simp) (by simp)

theorem kept_loop (s : State) (b : Bool) (d : Byte) : Kept s (s.loop b d) { regs := [.cx, .ip] } := by
  have h := kept_setReg s .cx (s.reg .cx - 1) (by decide)
  show Kept s (if (s.setReg .cx (s.reg .cx - 1)).reg .cx ≠ 0 ∧ b = true then _ else _) _
  split
  · exact h.trans (kept_jumpRel _ _)
  · exact h.mono (by simp) (by simp) (by simp) (by simp)

theorem kept_returnNear (s : State) : Kept s s.returnNear { regs := [.sp, .ip] } :=
  (kept_popped s).trans (kept_setReg _ .ip _ (by decide))

theorem kept_returnFar (s : State) : Kept s s.returnFar { regs := [.sp, .sp, .ip, .cs] } :=
  (((kept_popped s).trans (kept_popped _)).trans (kept_setReg _ .ip _ (by decide))).trans (kept_setReg _ .cs _ (by decide))

theorem kept_dropBytes (s : State) (v : Word) : Kept s (s.dropBytes v) { regs := [.sp] } := kept_setReg s .sp _ (by decide)

theorem kept_setReg_flags (s : State) (v : Word) :
    Kept s (s.setReg .flags v) { flags := [.cf, .pf, .af, .zf, .sf, .tf, .intf, .df, .of] } where
  host := ⟨rfl, rfl, rfl, rfl, rfl, rfl, rfl, rfl, rfl⟩
  regs q h _ _ := by simp [h]
  halves q _ _ := by simp
  flags g hg := by cases g <;> simp at hg
  flagsWord h := by simp at h
  flagsReserved _ := flagsReserved_storedWord _
  bytes _ _ := rfl
  memWf := id

theorem kept_interruptReturn (s : State) :
    Kept s s.interruptReturn
      { regs := [.sp, .sp, .sp, .ip, .cs], flags := [.cf, .pf, .af, .zf, .sf, .tf, .intf, .df, .of] } :=
  (((((kept_popped s).trans (kept_popped _)).trans (kept_popped _)).trans (kept_setReg _ .ip _ (by decide))).trans
    (kept_setReg _ .cs _ (by decide))).trans (kept_setReg_flags _ _)

/-! ## Multiplication -/

theorem kept_setCfOf (s : State) (b : Bool) : Kept s (s.setCfOf b) { flags := [.cf, .of] } :=
  (kept_setFlag s .cf b).trans (kept_setFlag _ .of b)

theorem kept_setDxAx (s : State) (v : BitVec 32) : Kept s (s.setDxAx v) { regs := [.dx, .ax] } :=
  (kept_setReg s .dx _ (by decide)).trans (kept_setReg _ .ax _ (by decide))

theorem kept_mul8 (s : State) (p : Place 8) : Kept s (s.mul8 p) { regs := [.ax], flags := [.cf, .of] } :=
  ((kept_noteRead s p).trans (kept_setReg _ .ax _ (by decide))).trans (kept_setCfOf _ _)

theorem kept_mul16 (s : State) (p : Place 16) : Kept s (s.mul16 p) { regs := [.dx, .ax], flags := [.cf, .of] } :=
  ((kept_noteRead s p).trans (kept_setDxAx _ _)).trans (kept_setCfOf _ _)

theorem kept_imul8 (s : State) (p : Place 8) : Kept s (s.imul8 p) { regs := [.ax], flags := [.cf, .of] } :=
  ((kept_noteRead s p).trans (kept_setReg _ .ax _ (by decide))).trans (kept_setCfOf _ _)

theorem kept_imul16 (s : State) (p : Place 16) : Kept s (s.imul16 p) { regs := [.dx, .ax], flags := [.cf, .of] } :=
  ((kept_noteRead s p).trans (kept_setDxAx _ _)).trans (kept_setCfOf _ _)

theorem kept_loadFlagsByte (s : State) (v : Byte) : Kept s (s.loadFlagsByte v) { flags := [.sf, .zf, .af, .pf, .cf] } :=
  ((((kept_setFlag s .sf _).trans (kept_setFlag _ .zf _)).trans (kept_setFlag _ .af _)).trans (kept_setFlag _ .pf _)).trans
    (kept_setFlag _ .cf _)

/-! ## Strings -/

theorem kept_bumpSi (s : State) (d : Word) : Kept s (s.bumpSi d) { regs := [.si] } := kept_setReg s .si _ (by decide)
theorem kept_bumpDi (s : State) (d : Word) : Kept s (s.bumpDi d) { regs := [.di] } := kept_setReg s .di _ (by decide)

/-- One iteration changes SI, DI, the accumulator, the destination bytes and, in a comparison, the status flags. -/
theorem kept_stringOnce (s : State) (op : StringOp) : ∃ f, Kept s (s.stringOnce op) f ∧ f.regs ⊆ [.ax, .si, .di] ∧
    (∀ h ∈ f.halves, h = .al) ∧ f.flags ⊆ statusFlags ∧
    (op ∈ [StringOp.movsb, .movsw, .stosb, .stosw, .lodsb, .lodsw] → f.flags = []) ∧
    f.bytes ⊆ [s.stringDst, s.stringDst + 1] := by
  cases op with
  | movsb => exact ⟨_, ((move_spec s _ (by simp) _).2.1.trans (kept_bumpSi _ _)).trans (kept_bumpDi _ _), by
      simp [Footprint.and, Place.footprint]⟩
  | movsw => exact ⟨_, ((move_spec s _ (by simp) _).2.1.trans (kept_bumpSi _ _)).trans (kept_bumpDi _ _), by
      simp [Footprint.and, Place.footprint]⟩
  | stosb => exact ⟨_, (move_spec s _ (by simp) _).2.1.trans (kept_bumpDi _ _), by simp [Footprint.and, Place.footprint]⟩
  | stosw => exact ⟨_, (move_spec s _ (by simp) _).2.1.trans (kept_bumpDi _ _), by simp [Footprint.and, Place.footprint]⟩
  | lodsb => exact ⟨_, (move_spec s placeAl (by simp) _).2.1.trans (kept_bumpSi _ _), by
      simp [Footprint.and, Place.footprint, placeAl]⟩
  | lodsw => exact ⟨_, (move_spec s placeAx (by simp) _).2.1.trans (kept_bumpSi _ _), by
      simp [Footprint.and, Place.footprint, placeAx]⟩
  | cmpsb => exact ⟨_, ((cmp_spec s _ _).2.1.trans (kept_bumpSi _ _)).trans (kept_bumpDi _ _), by simp [Footprint.and]⟩
  | cmpsw => exact ⟨_, ((cmp_spec s _ _).2.1.trans (kept_bumpSi _ _)).trans (kept_bumpDi _ _), by simp [Footprint.and]⟩
  | scasb => exact ⟨_, (cmp_spec s placeAl _).2.1.trans (kept_bumpDi _ _), by simp [Footprint.and]⟩
  | scasw => exact ⟨_, (cmp_spec s placeAx _).2.1.trans (kept_bumpDi _ _), by simp [Footprint.and]⟩

/-- The repetition changes what its iterations change, and CX. -/
theorem kept_repeatWhile (op : StringOp) (goesOn : State → Bool) (k : Nat) (s : State) :
    ∃ f, Kept s (s.repeatWhile op goesOn k) f ∧ f.regs ⊆ [.ax, .si, .di, .cx] ∧ (∀ h ∈ f.halves, h = .al) ∧
      f.flags ⊆ statusFlags ∧ (op ∈ [StringOp.movsb, .movsw, .stosb, .stosw, .lodsb, .lodsw] → f.flags = []) := by
  induction k generalizing s with
  | zero => exact ⟨{}, Kept.refl s, by simp⟩
  | succ k ih =>
    by_cases h0 : s.reg .cx = 0
    · rw [State.repeatWhile, if_pos h0]; exact ⟨{}, Kept.refl s, by simp⟩
    · obtain ⟨f, hf, hr, hh, hfl, hn, -⟩ := kept_stringOnce s op
      have hu := hf.trans (kept_setReg (s.stringOnce op) .cx ((s.stringOnce op).reg .cx - 1) (by decide))
      obtain ⟨g, hg, gr, gh, gfl, gn⟩ := ih ((s.stringOnce op).setReg .cx ((s.stringOnce op).reg .cx - 1))
      have hr' : f.regs ⊆ [.ax, .si, .di, .cx] := fun x hx => by have := hr hx; simp at this ⊢; rcases this with h | h | h <;> simp [h]
      rw [State.repeatWhile, if_neg h0]
      by_cases hw : goesOn ((s.stringOnce op).setReg .cx ((s.stringOnce op).reg .cx - 1)) = true
      · rw [if_pos hw]
        refine ⟨_, hu.trans hg, ?_, ?_, ?_, ?_⟩
        · simp only [Footprint.and, List.append_subset]; exact ⟨⟨hr', by simp⟩, gr⟩
        · intro h hm
          simp only [Footprint.and, List.append_nil, List.mem_append] at hm
          rcases hm with hm | hm
          · exact hh h hm
          · exact gh h hm
        · simp only [Footprint.and, List.append_nil, List.append_subset]; exact ⟨hfl, gfl⟩
        · intro ho; simp [Footprint.and, hn ho, gn ho]
      · rw [if_neg hw]
        refine ⟨_, hu, ?_, ?_, ?_, ?_⟩
        · simp only [Footprint.and, List.append_subset]; exact ⟨hr', by simp⟩
        · intro h hm
          simp only [Footprint.and, List.append_nil] at hm
          exact hh h hm
        · simpa only [Footprint.and, List.append_nil] using hfl
        · intro ho; simp [Footprint.and, hn ho]

/-! ## All plain instructions -/

/-- The instructions that may end Faulted or Halted, or stop the model. -/
def mayStop : Instr → Bool
  | .divRm8 _ | .divRm16 _ | .idivRm8 _ | .idivRm16 _ | .intImm8 _ | .hlt => true
  | _ => false

/-- Every other instruction completes from every state, and changes only registers, flags, memory and the trace. -/
theorem exec_kept (i : Instr) (h : mayStop i = false) (s : State) : ∃ t f, exec i s = .next t ∧ Kept s t f := by
  cases i with
  | addRm8R8 d r => exact ⟨_, _, rfl, (alu_spec s _ rfl _ (by simp) _).2.2.1⟩
  | addRm16R16 d r => exact ⟨_, _, rfl, (alu_spec s _ rfl _ (by simp) _).2.2.1⟩
  | addR8Rm8 d r => exact ⟨_, _, rfl, (alu_spec s _ rfl _ (by simp) _).2.2.1⟩
  | addR16Rm16 d r => exact ⟨_, _, rfl, (alu_spec s _ rfl _ (by simp) _).2.2.1⟩
  | addAlImm8 v => exact ⟨_, _, rfl, (alu_spec s _ rfl _ (by simp) _).2.2.1⟩
  | addAxImm16 v => exact ⟨_, _, rfl, (alu_spec s _ rfl _ (by simp) _).2.2.1⟩
  | addRm8Imm8 d v => exact ⟨_, _, rfl, (alu_spec s _ rfl _ (by simp) _).2.2.1⟩
  | addRm16Imm16 d v => exact ⟨_, _, rfl, (alu_spec s _ rfl _ (by simp) _).2.2.1⟩
  | addRm16Simm8 d v => exact ⟨_, _, rfl, (alu_spec s _ rfl _ (by simp) _).2.2.1⟩
  | orRm8R8 d r => exact ⟨_, _, rfl, (alu_spec s _ rfl _ (by simp) _).2.2.1⟩
  | orRm16R16 d r => exact ⟨_, _, rfl, (alu_spec s _ rfl _ (by simp) _).2.2.1⟩
  | orR8Rm8 d r => exact ⟨_, _, rfl, (alu_spec s _ rfl _ (by simp) _).2.2.1⟩
  | orR16Rm16 d r => exact ⟨_, _, rfl, (alu_spec s _ rfl _ (by simp) _).2.2.1⟩
  | orAlImm8 v => exact ⟨_, _, rfl, (alu_spec s _ rfl _ (by simp) _).2.2.1⟩
  | orAxImm16 v => exact ⟨_, _, rfl, (alu_spec s _ rfl _ (by simp) _).2.2.1⟩
  | orRm8Imm8 d v => exact ⟨_, _, rfl, (alu_spec s _ rfl _ (by simp) _).2.2.1⟩
  | orRm16Imm16 d v => exact ⟨_, _, rfl, (alu_spec s _ rfl _ (by simp) _).2.2.1⟩
  | orRm16Simm8 d v => exact ⟨_, _, rfl, (alu_spec s _ rfl _ (by simp) _).2.2.1⟩
  | adcRm8R8 d r => exact ⟨_, _, rfl, (alu_spec s _ rfl _ (by simp) _).2.2.1⟩
  | adcRm16R16 d r => exact ⟨_, _, rfl, (alu_spec s _ rfl _ (by simp) _).2.2.1⟩
  | adcR8Rm8 d r => exact ⟨_, _, rfl, (alu_spec s _ rfl _ (by simp) _).2.2.1⟩
  | adcR16Rm16 d r => exact ⟨_, _, rfl, (alu_spec s _ rfl _ (by simp) _).2.2.1⟩
  | adcAlImm8 v => exact ⟨_, _, rfl, (alu_spec s _ rfl _ (by simp) _).2.2.1⟩
  | adcAxImm16 v => exact ⟨_, _, rfl, (alu_spec s _ rfl _ (by simp) _).2.2.1⟩
  | adcRm8Imm8 d v => exact ⟨_, _, rfl, (alu_spec s _ rfl _ (by simp) _).2.2.1⟩
  | adcRm16Imm16 d v => exact ⟨_, _, rfl, (alu_spec s _ rfl _ (by simp) _).2.2.1⟩
  | adcRm16Simm8 d v => exact ⟨_, _, rfl, (alu_spec s _ rfl _ (by simp) _).2.2.1⟩
  | sbbRm8R8 d r => exact ⟨_, _, rfl, (alu_spec s _ rfl _ (by simp) _).2.2.1⟩
  | sbbRm16R16 d r => exact ⟨_, _, rfl, (alu_spec s _ rfl _ (by simp) _).2.2.1⟩
  | sbbR8Rm8 d r => exact ⟨_, _, rfl, (alu_spec s _ rfl _ (by simp) _).2.2.1⟩
  | sbbR16Rm16 d r => exact ⟨_, _, rfl, (alu_spec s _ rfl _ (by simp) _).2.2.1⟩
  | sbbAlImm8 v => exact ⟨_, _, rfl, (alu_spec s _ rfl _ (by simp) _).2.2.1⟩
  | sbbAxImm16 v => exact ⟨_, _, rfl, (alu_spec s _ rfl _ (by simp) _).2.2.1⟩
  | sbbRm8Imm8 d v => exact ⟨_, _, rfl, (alu_spec s _ rfl _ (by simp) _).2.2.1⟩
  | sbbRm16Imm16 d v => exact ⟨_, _, rfl, (alu_spec s _ rfl _ (by simp) _).2.2.1⟩
  | sbbRm16Simm8 d v => exact ⟨_, _, rfl, (alu_spec s _ rfl _ (by simp) _).2.2.1⟩
  | andRm8R8 d r => exact ⟨_, _, rfl, (alu_spec s _ rfl _ (by simp) _).2.2.1⟩
  | andRm16R16 d r => exact ⟨_, _, rfl, (alu_spec s _ rfl _ (by simp) _).2.2.1⟩
  | andR8Rm8 d r => exact ⟨_, _, rfl, (alu_spec s _ rfl _ (by simp) _).2.2.1⟩
  | andR16Rm16 d r => exact ⟨_, _, rfl, (alu_spec s _ rfl _ (by simp) _).2.2.1⟩
  | andAlImm8 v => exact ⟨_, _, rfl, (alu_spec s _ rfl _ (by simp) _).2.2.1⟩
  | andAxImm16 v => exact ⟨_, _, rfl, (alu_spec s _ rfl _ (by simp) _).2.2.1⟩
  | andRm8Imm8 d v => exact ⟨_, _, rfl, (alu_spec s _ rfl _ (by simp) _).2.2.1⟩
  | andRm16Imm16 d v => exact ⟨_, _, rfl, (alu_spec s _ rfl _ (by simp) _).2.2.1⟩
  | andRm16Simm8 d v => exact ⟨_, _, rfl, (alu_spec s _ rfl _ (by simp) _).2.2.1⟩
  | subRm8R8 d r => exact ⟨_, _, rfl, (alu_spec s _ rfl _ (by simp) _).2.2.1⟩
  | subRm16R16 d r => exact ⟨_, _, rfl, (alu_spec s _ rfl _ (by simp) _).2.2.1⟩
  | subR8Rm8 d r => exact ⟨_, _, rfl, (alu_spec s _ rfl _ (by simp) _).2.2.1⟩
  | subR16Rm16 d r => exact ⟨_, _, rfl, (alu_spec s _ rfl _ (by simp) _).2.2.1⟩
  | subAlImm8 v => exact ⟨_, _, rfl, (alu_spec s _ rfl _ (by simp) _).2.2.1⟩
  | subAxImm16 v => exact ⟨_, _, rfl, (alu_spec s _ rfl _ (by simp) _).2.2.1⟩
  | subRm8Imm8 d v => exact ⟨_, _, rfl, (alu_spec s _ rfl _ (by simp) _).2.2.1⟩
  | subRm16Imm16 d v => exact ⟨_, _, rfl, (alu_spec s _ rfl _ (by simp) _).2.2.1⟩
  | subRm16Simm8 d v => exact ⟨_, _, rfl, (alu_spec s _ rfl _ (by simp) _).2.2.1⟩
  | xorRm8R8 d r => exact ⟨_, _, rfl, (alu_spec s _ rfl _ (by simp) _).2.2.1⟩
  | xorRm16R16 d r => exact ⟨_, _, rfl, (alu_spec s _ rfl _ (by simp) _).2.2.1⟩
  | xorR8Rm8 d r => exact ⟨_, _, rfl, (alu_spec s _ rfl _ (by simp) _).2.2.1⟩
  | xorR16Rm16 d r => exact ⟨_, _, rfl, (alu_spec s _ rfl _ (by simp) _).2.2.1⟩
  | xorAlImm8 v => exact ⟨_, _, rfl, (alu_spec s _ rfl _ (by simp) _).2.2.1⟩
  | xorAxImm16 v => exact ⟨_, _, rfl, (alu_spec s _ rfl _ (by simp) _).2.2.1⟩
  | xorRm8Imm8 d v => exact ⟨_, _, rfl, (alu_spec s _ rfl _ (by simp) _).2.2.1⟩
  | xorRm16Imm16 d v => exact ⟨_, _, rfl, (alu_spec s _ rfl _ (by simp) _).2.2.1⟩
  | xorRm16Simm8 d v => exact ⟨_, _, rfl, (alu_spec s _ rfl _ (by simp) _).2.2.1⟩
  | cmpRm8R8 d r => exact ⟨_, _, rfl, (cmp_spec s _ _).2.1⟩
  | cmpRm16R16 d r => exact ⟨_, _, rfl, (cmp_spec s _ _).2.1⟩
  | cmpR8Rm8 d r => exact ⟨_, _, rfl, (cmp_spec s _ _).2.1⟩
  | cmpR16Rm16 d r => exact ⟨_, _, rfl, (cmp_spec s _ _).2.1⟩
  | cmpAlImm8 v => exact ⟨_, _, rfl, (cmp_spec s _ _).2.1⟩
  | cmpAxImm16 v => exact ⟨_, _, rfl, (cmp_spec s _ _).2.1⟩
  | cmpRm8Imm8 d v => exact ⟨_, _, rfl, (cmp_spec s _ _).2.1⟩
  | cmpRm16Imm16 d v => exact ⟨_, _, rfl, (cmp_spec s _ _).2.1⟩
  | cmpRm16Simm8 d v => exact ⟨_, _, rfl, (cmp_spec s _ _).2.1⟩
  | pushEs => exact ⟨_, _, rfl, kept_pushPlace s _⟩
  | pushCs => exact ⟨_, _, rfl, kept_pushPlace s _⟩
  | pushSs => exact ⟨_, _, rfl, kept_pushPlace s _⟩
  | pushDs => exact ⟨_, _, rfl, kept_pushPlace s _⟩
  | popEs => exact ⟨_, _, rfl, kept_popPlace s _ (by simp)⟩
  | popSs => exact ⟨_, _, rfl, kept_popPlace s _ (by simp)⟩
  | popDs => exact ⟨_, _, rfl, kept_popPlace s _ (by simp)⟩
  | incR16 r => exact ⟨_, _, rfl, (keepCf_spec s _ (by simp) (incN _)).2.2.1⟩
  | decR16 r => exact ⟨_, _, rfl, (keepCf_spec s _ (by simp) (decN _)).2.2.1⟩
  | pushR16 r => exact ⟨_, _, rfl, kept_pushPlace s _⟩
  | popR16 r => exact ⟨_, _, rfl, kept_popPlace s _ (by simp)⟩
  | joRel8 disp => exact ⟨_, _, rfl, kept_jumpIf s _ _⟩
  | jnoRel8 disp => exact ⟨_, _, rfl, kept_jumpIf s _ _⟩
  | jbRel8 disp => exact ⟨_, _, rfl, kept_jumpIf s _ _⟩
  | jnbRel8 disp => exact ⟨_, _, rfl, kept_jumpIf s _ _⟩
  | jeRel8 disp => exact ⟨_, _, rfl, kept_jumpIf s _ _⟩
  | jneRel8 disp => exact ⟨_, _, rfl, kept_jumpIf s _ _⟩
  | jbeRel8 disp => exact ⟨_, _, rfl, kept_jumpIf s _ _⟩
  | jaRel8 disp => exact ⟨_, _, rfl, kept_jumpIf s _ _⟩
  | jsRel8 disp => exact ⟨_, _, rfl, kept_jumpIf s _ _⟩
  | jnsRel8 disp => exact ⟨_, _, rfl, kept_jumpIf s _ _⟩
  | jpRel8 disp => exact ⟨_, _, rfl, kept_jumpIf s _ _⟩
  | jnpRel8 disp => exact ⟨_, _, rfl, kept_jumpIf s _ _⟩
  | jlRel8 disp => exact ⟨_, _, rfl, kept_jumpIf s _ _⟩
  | jgeRel8 disp => exact ⟨_, _, rfl, kept_jumpIf s _ _⟩
  | jleRel8 disp => exact ⟨_, _, rfl, kept_jumpIf s _ _⟩
  | jgRel8 disp => exact ⟨_, _, rfl, kept_jumpIf s _ _⟩
  | testRm8R8 d r => exact ⟨_, _, rfl, (test_spec s _ _).2.1⟩
  | testRm16R16 d r => exact ⟨_, _, rfl, (test_spec s _ _).2.1⟩
  | movRm8R8 d r => exact ⟨_, _, rfl, (move_spec s _ (by simp) _).2.1⟩
  | movRm16R16 d r => exact ⟨_, _, rfl, (move_spec s _ (by simp) _).2.1⟩
  | movR8Rm8 d r => exact ⟨_, _, rfl, (move_spec s _ (by simp) _).2.1⟩
  | movR16Rm16 d r => exact ⟨_, _, rfl, (move_spec s _ (by simp) _).2.1⟩
  | movRm16Es r => exact ⟨_, _, rfl, (move_spec s _ (by simp) _).2.1⟩
  | movRm16Cs r => exact ⟨_, _, rfl, (move_spec s _ (by simp) _).2.1⟩
  | movRm16Ss r => exact ⟨_, _, rfl, (move_spec s _ (by simp) _).2.1⟩
  | movRm16Ds r => exact ⟨_, _, rfl, (move_spec s _ (by simp) _).2.1⟩
  | movEsRm16 r => exact ⟨_, _, rfl, (move_spec s _ (by simp) _).2.1⟩
  | movSsRm16 r => exact ⟨_, _, rfl, (move_spec s _ (by simp) _).2.1⟩
  | movDsRm16 r => exact ⟨_, _, rfl, (move_spec s _ (by simp) _).2.1⟩
  | popRm16 r => exact ⟨_, _, rfl, kept_popPlace s _ (by simp)⟩
  | nop => exact ⟨_, _, rfl, Kept.refl s⟩
  | cbw => exact ⟨_, _, rfl, kept_setReg8 s _ _⟩
  | cwd => exact ⟨_, _, rfl, kept_setReg s _ _ (by decide)⟩
  | callFar off reg => exact ⟨_, _, rfl, ((kept_push16 s _).trans (kept_push16 _ _)).trans (kept_jumpFar _ _ _)⟩
  | sahf => exact ⟨_, _, rfl, kept_loadFlagsByte s _⟩
  | lahf => exact ⟨_, _, rfl, kept_setReg8 s _ _⟩
  | movAlMoffs off => exact ⟨_, _, rfl, (move_spec s _ (by simp) _).2.1⟩
  | movAxMoffs off => exact ⟨_, _, rfl, (move_spec s _ (by simp) _).2.1⟩
  | movMoffsAl off => exact ⟨_, _, rfl, (move_spec s _ (by simp) _).2.1⟩
  | movMoffsAx off => exact ⟨_, _, rfl, (move_spec s _ (by simp) _).2.1⟩
  | movsb => obtain ⟨f, hf, -⟩ := kept_stringOnce s .movsb; exact ⟨_, f, rfl, hf⟩
  | movsw => obtain ⟨f, hf, -⟩ := kept_stringOnce s .movsw; exact ⟨_, f, rfl, hf⟩
  | cmpsb => obtain ⟨f, hf, -⟩ := kept_stringOnce s .cmpsb; exact ⟨_, f, rfl, hf⟩
  | cmpsw => obtain ⟨f, hf, -⟩ := kept_stringOnce s .cmpsw; exact ⟨_, f, rfl, hf⟩
  | testAlImm8 v => exact ⟨_, _, rfl, (test_spec s _ _).2.1⟩
  | testAxImm16 v => exact ⟨_, _, rfl, (test_spec s _ _).2.1⟩
  | stosb => obtain ⟨f, hf, -⟩ := kept_stringOnce s .stosb; exact ⟨_, f, rfl, hf⟩
  | stosw => obtain ⟨f, hf, -⟩ := kept_stringOnce s .stosw; exact ⟨_, f, rfl, hf⟩
  | lodsb => obtain ⟨f, hf, -⟩ := kept_stringOnce s .lodsb; exact ⟨_, f, rfl, hf⟩
  | lodsw => obtain ⟨f, hf, -⟩ := kept_stringOnce s .lodsw; exact ⟨_, f, rfl, hf⟩
  | scasb => obtain ⟨f, hf, -⟩ := kept_stringOnce s .scasb; exact ⟨_, f, rfl, hf⟩
  | scasw => obtain ⟨f, hf, -⟩ := kept_stringOnce s .scasw; exact ⟨_, f, rfl, hf⟩
  | movR8Imm8 d v => exact ⟨_, _, rfl, (move_spec s _ (by simp) _).2.1⟩
  | movR16Imm16 d v => exact ⟨_, _, rfl, (move_spec s _ (by simp) _).2.1⟩
  | retImm16 v => exact ⟨_, _, rfl, (kept_returnNear s).trans (kept_dropBytes _ _)⟩
  | ret => exact ⟨_, _, rfl, kept_returnNear s⟩
  | retfImm16 v => exact ⟨_, _, rfl, (kept_returnFar s).trans (kept_dropBytes _ _)⟩
  | retf => exact ⟨_, _, rfl, kept_returnFar s⟩
  | intImm8 v => simp [mayStop] at h
  | iret => exact ⟨_, _, rfl, kept_interruptReturn s⟩
  | rolRm8One r => exact ⟨_, _, rfl, (shift_spec s _ _ (by simp) _).2.2.2.2.1⟩
  | rorRm8One r => exact ⟨_, _, rfl, (shift_spec s _ _ (by simp) _).2.2.2.2.1⟩
  | rclRm8One r => exact ⟨_, _, rfl, (shift_spec s _ _ (by simp) _).2.2.2.2.1⟩
  | rcrRm8One r => exact ⟨_, _, rfl, (shift_spec s _ _ (by simp) _).2.2.2.2.1⟩
  | shlRm8One r => exact ⟨_, _, rfl, (shift_spec s _ _ (by simp) _).2.2.2.2.1⟩
  | shrRm8One r => exact ⟨_, _, rfl, (shift_spec s _ _ (by simp) _).2.2.2.2.1⟩
  | sarRm8One r => exact ⟨_, _, rfl, (shift_spec s _ _ (by simp) _).2.2.2.2.1⟩
  | rolRm16One r => exact ⟨_, _, rfl, (shift_spec s _ _ (by simp) _).2.2.2.2.1⟩
  | rorRm16One r => exact ⟨_, _, rfl, (shift_spec s _ _ (by simp) _).2.2.2.2.1⟩
  | rclRm16One r => exact ⟨_, _, rfl, (shift_spec s _ _ (by simp) _).2.2.2.2.1⟩
  | rcrRm16One r => exact ⟨_, _, rfl, (shift_spec s _ _ (by simp) _).2.2.2.2.1⟩
  | shlRm16One r => exact ⟨_, _, rfl, (shift_spec s _ _ (by simp) _).2.2.2.2.1⟩
  | shrRm16One r => exact ⟨_, _, rfl, (shift_spec s _ _ (by simp) _).2.2.2.2.1⟩
  | sarRm16One r => exact ⟨_, _, rfl, (shift_spec s _ _ (by simp) _).2.2.2.2.1⟩
  | rolRm8Cl r => exact ⟨_, _, rfl, (shift_spec s _ _ (by simp) _).2.2.2.2.1⟩
  | rorRm8Cl r => exact ⟨_, _, rfl, (shift_spec s _ _ (by simp) _).2.2.2.2.1⟩
  | rclRm8Cl r => exact ⟨_, _, rfl, (shift_spec s _ _ (by simp) _).2.2.2.2.1⟩
  | rcrRm8Cl r => exact ⟨_, _, rfl, (shift_spec s _ _ (by simp) _).2.2.2.2.1⟩
  | shlRm8Cl r => exact ⟨_, _, rfl, (shift_spec s _ _ (by simp) _).2.2.2.2.1⟩
  | shrRm8Cl r => exact ⟨_, _, rfl, (shift_spec s _ _ (by simp) _).2.2.2.2.1⟩
  | sarRm8Cl r => exact ⟨_, _, rfl, (shift_spec s _ _ (by simp) _).2.2.2.2.1⟩
  | rolRm16Cl r => exact ⟨_, _, rfl, (shift_spec s _ _ (by simp) _).2.2.2.2.1⟩
  | rorRm16Cl r => exact ⟨_, _, rfl, (shift_spec s _ _ (by simp) _).2.2.2.2.1⟩
  | rclRm16Cl r => exact ⟨_, _, rfl, (shift_spec s _ _ (by simp) _).2.2.2.2.1⟩
  | rcrRm16Cl r => exact ⟨_, _, rfl, (shift_spec s _ _ (by simp) _).2.2.2.2.1⟩
  | shlRm16Cl r => exact ⟨_, _, rfl, (shift_spec s _ _ (by simp) _).2.2.2.2.1⟩
  | shrRm16Cl r => exact ⟨_, _, rfl, (shift_spec s _ _ (by simp) _).2.2.2.2.1⟩
  | sarRm16Cl r => exact ⟨_, _, rfl, (shift_spec s _ _ (by simp) _).2.2.2.2.1⟩
  | loopneRel8 disp => exact ⟨_, _, rfl, kept_loop s _ _⟩
  | loopeRel8 disp => exact ⟨_, _, rfl, kept_loop s _ _⟩
  | loopRel8 disp => exact ⟨_, _, rfl, kept_loop s _ _⟩
  | callRel16 disp => exact ⟨_, _, rfl, (kept_push16 s _).trans (kept_jumpRel _ _)⟩
  | jmpRel16 disp => exact ⟨_, _, rfl, kept_jumpRel s _⟩
  | jmpFar off reg => exact ⟨_, _, rfl, kept_jumpFar s _ _⟩
  | jmpRel8 disp => exact ⟨_, _, rfl, kept_jumpRel s _⟩
  | repne op => obtain ⟨f, hf, -⟩ := kept_repeatWhile _ _ _ s; exact ⟨_, f, rfl, hf⟩
  | rep op => obtain ⟨f, hf, -⟩ := kept_repeatWhile _ _ _ s; exact ⟨_, f, rfl, hf⟩
  | hlt => simp [mayStop] at h
  | testRm8Imm8 d v => exact ⟨_, _, rfl, (test_spec s _ _).2.1⟩
  | notRm8 r => exact ⟨_, _, rfl, (not_spec s _ (by simp)).2.1⟩
  | negRm8 r => exact ⟨_, _, rfl, (neg_spec s _ (by simp)).2.2.1⟩
  | mulRm8 r => exact ⟨_, _, rfl, kept_mul8 s _⟩
  | imulRm8 r => exact ⟨_, _, rfl, kept_imul8 s _⟩
  | divRm8 r => simp [mayStop] at h
  | idivRm8 r => simp [mayStop] at h
  | testRm16Imm16 d v => exact ⟨_, _, rfl, (test_spec s _ _).2.1⟩
  | notRm16 r => exact ⟨_, _, rfl, (not_spec s _ (by simp)).2.1⟩
  | negRm16 r => exact ⟨_, _, rfl, (neg_spec s _ (by simp)).2.2.1⟩
  | mulRm16 r => exact ⟨_, _, rfl, kept_mul16 s _⟩
  | imulRm16 r => exact ⟨_, _, rfl, kept_imul16 s _⟩
  | divRm16 r => simp [mayStop] at h
  | idivRm16 r => simp [mayStop] at h
  | clc => exact ⟨_, _, rfl, kept_setFlag s _ _⟩
  | stc => exact ⟨_, _, rfl, kept_setFlag s _ _⟩
  | cli => exact ⟨_, _, rfl, kept_setFlag s _ _⟩
  | sti => exact ⟨_, _, rfl, kept_setFlag s _ _⟩
  | cld => exact ⟨_, _, rfl, kept_setFlag s _ _⟩
  | std => exact ⟨_, _, rfl, kept_setFlag s _ _⟩
  | incRm8 r => exact ⟨_, _, rfl, (keepCf_spec s _ (by simp) (incN _)).2.2.1⟩
  | decRm8 r => exact ⟨_, _, rfl, (keepCf_spec s _ (by simp) (decN _)).2.2.1⟩
  | incRm16 r => exact ⟨_, _, rfl, (keepCf_spec s _ (by simp) (incN _)).2.2.1⟩
  | decRm16 r => exact ⟨_, _, rfl, (keepCf_spec s _ (by simp) (decN _)).2.2.1⟩
  | pushRm16 r => exact ⟨_, _, rfl, kept_pushPlace s _⟩

end Sys2Proof.Machine
end

