-- ==== Sys2Proof/Laws/Host.lean ====
section
/-! SUPPORT. What the host's calls do (70_reset_and_hazards.md R463; 20_memory.md R80; 60_exceptions.md R441; 40_execution_cycle.md R162). -/

namespace Sys2Proof.Machine

theorem mem_insertRising {l : List PAddr} {f g : PAddr} : g ∈ insertRising l f ↔ g = f ∨ g ∈ l := by
  induction l with
  | nil => simp [insertRising]
  | cons a l ih =>
    rw [insertRising]
    split
    · simp
    · split
      · rename_i h; subst h; simp
      · simp only [List.mem_cons, ih]
        constructor <;> (rintro (h | h | h) <;> simp [h])

theorem insertRising_rising {l : List PAddr} (h : l.Pairwise (fun f g => f < g)) (f : PAddr) :
    (insertRising l f).Pairwise (fun f g => f < g) := by
  induction l with
  | nil => simp [insertRising]
  | cons a l ih =>
    rw [insertRising]
    have ha := List.pairwise_cons.mp h
    split
    · rename_i hf
      refine List.pairwise_cons.mpr ⟨?_, h⟩
      intro g hg
      rcases List.mem_cons.mp hg with rfl | hg
      · exact hf
      · exact BitVec.lt_trans hf (ha.1 g hg)
    · split
      · exact h
      · rename_i h1 h2
        refine List.pairwise_cons.mpr ⟨?_, ih ha.2⟩
        intro g hg
        rcases mem_insertRising.mp hg with rfl | hg
        · rw [BitVec.lt_def] at *
          have : g.toNat ≠ a.toNat := fun h => h2 (BitVec.eq_of_toNat_eq h)
          omega
        · exact ha.1 g hg

/-- Bytes laid at rising addresses change memory only. -/
theorem putBytes_eq (s : State) (a : PAddr) (bs : List Byte) : s.putBytes a bs = { s with mem := (s.putBytes a bs).mem } := by
  induction bs generalizing s a with
  | nil => rfl
  | cons b bs ih => rw [State.putBytes, ih]; rfl

theorem putBytes_wf {s : State} (h : s.mem.wf) (a : PAddr) (bs : List Byte) : (s.putBytes a bs).mem.wf := by
  induction bs generalizing s a with
  | nil => exact h
  | cons b bs ih => exact ih (State.putByte_wf h a b) (a + 1)

/-- One iteration of the loop of `run`. -/
theorem runLoop_succ (k n : Nat) (s t : State) (h : step s = .next t) :
    runLoop (k + 1) n s = (match t.stepReturn with
      | .continues => runLoop k (n + 1) t
      | .halted => .next { state := t, outcome := .halted, retired := n + 1 }
      | .breakpointHit => .next { state := t, outcome := .breakpointHit, retired := n }
      | .fault r => .next { state := t, outcome := .fault r, retired := n }) := by
  rw [runLoop]; cases hr : t.stepReturn <;> simp [h, hr]

end Sys2Proof.Machine
end

