-- ==== Sys2Proof/Laws/Interrupt.lean ====
section
/-! SUPPORT. What `INT` does, case by case (48_control_transfer.md R378; 60_exceptions.md R424 to R434). -/

namespace Sys2Proof.Machine

/-- A byte the host accepts is sent and one answer is used up. -/
theorem hostOutByte_ok (s : State) (b : Byte) (h : s.outAnswers.head? ≠ some .ioError) :
    s.hostOutByte b = (.ok, { s with hostOut := s.hostOut ++ [b], outAnswers := s.outAnswers.tail }) := by
  unfold State.hostOutByte
  split
  · rename_i ha; rw [ha]; rfl
  · rename_i ha; rw [ha]; rfl
  · rename_i ha; rw [ha] at h; exact absurd rfl h

/-- A byte the host refuses is not sent. -/
theorem hostOutByte_ioError (s : State) (b : Byte) (h : s.outAnswers.head? = some .ioError) :
    s.hostOutByte b = (.ioError, { s with outAnswers := s.outAnswers.tail }) := by
  unfold State.hostOutByte
  split
  · rename_i ha; rw [ha] at h; cases h
  · rename_i ha; rw [ha] at h; cases h
  · rename_i ha; rw [ha]; rfl

/-- The string ends at a byte 0x24. -/
theorem outputString_dollar (s : State) (k : Nat) (off : Word) (h : s.byteAt (phys (s.reg .ds) off) = 0x24) :
    s.outputString (k + 1) off = .next (s.emit (.read (phys (s.reg .ds) off) .byte)) := by
  rw [State.outputString]; exact if_pos h

/-- A byte other than 0x24 that the host accepts is sent, and the next one follows. -/
theorem outputString_sends (s : State) (k : Nat) (off : Word) (h : s.byteAt (phys (s.reg .ds) off) ≠ 0x24)
    (ha : s.outAnswers.head? ≠ some .ioError) :
    s.outputString (k + 1) off = State.outputString
      { s with trace := s.trace ++ [.read (phys (s.reg .ds) off) .byte], hostOut := s.hostOut ++ [s.byteAt (phys (s.reg .ds) off)],
               outAnswers := s.outAnswers.tail } k (off + 1) := by
  rw [State.outputString]
  simp only [if_neg h]
  rw [hostOutByte_ok _ _ (by exact ha)]
  rfl

/-- A byte other than 0x24 that the host refuses ends the step with IoError. -/
theorem outputString_refused (s : State) (k : Nat) (off : Word) (h : s.byteAt (phys (s.reg .ds) off) ≠ 0x24)
    (ha : s.outAnswers.head? = some .ioError) :
    s.outputString (k + 1) off = .next (State.raise
      { s with trace := s.trace ++ [.read (phys (s.reg .ds) off) .byte], outAnswers := s.outAnswers.tail } .ioError) := by
  rw [State.outputString]
  simp only [if_neg h]
  rw [hostOutByte_ioError _ _ (by exact ha)]
  rfl

/-- What `INT n` can do: a service of INT 21h, a host handler, or nothing that handles it. -/
theorem interrupt_cases (s : State) (n : Byte) :
    (n = 0x21 ∧ s.reg8 .ah = 0x02 ∧ s.interrupt n = .next s.outputChar) ∨
    (n = 0x21 ∧ s.reg8 .ah = 0x09 ∧ s.interrupt n = s.outputString s.outputBound (s.reg .dx)) ∨
    (n = 0x21 ∧ s.reg8 .ah = 0x4C ∧ s.interrupt n = .next s.exit) ∨
    (n ≠ 0x21 ∧ n ∈ s.params.intHandlers ∧ s.interrupt n = s.callHandler n) ∨
    ((n ≠ 0x21 ∧ n ∉ s.params.intHandlers ∨ n = 0x21 ∧ s.reg8 .ah ∉ [(0x02 : Byte), 0x09, 0x4C]) ∧
      s.interrupt n = .next (s.unhandled n)) := by
  by_cases hn : n = 0x21
  · subst hn
    by_cases h2 : s.reg8 .ah = 0x02
    · exact .inl ⟨rfl, h2, by simp [State.interrupt, State.int21, h2]⟩
    · by_cases h9 : s.reg8 .ah = 0x09
      · exact .inr (.inl ⟨rfl, h9, by simp [State.interrupt, State.int21, h9]⟩)
      · by_cases h4 : s.reg8 .ah = 0x4C
        · exact .inr (.inr (.inl ⟨rfl, h4, by simp [State.interrupt, State.int21, h4]⟩))
        · refine .inr (.inr (.inr (.inr ⟨.inr ⟨rfl, ?_⟩, ?_⟩)))
          · intro hm
            rcases List.mem_cons.mp hm with h | hm
            · exact h2 h
            rcases List.mem_cons.mp hm with h | hm
            · exact h9 h
            · exact h4 (List.mem_singleton.mp hm)
          · simp only [State.interrupt, State.int21, if_true]
            rw [if_neg h2, if_neg h9, if_neg h4]
  · by_cases hm : n ∈ s.params.intHandlers
    · exact .inr (.inr (.inr (.inl ⟨hn, hm, by rw [State.interrupt, if_neg hn, if_pos hm]⟩)))
    · exact .inr (.inr (.inr (.inr ⟨.inl ⟨hn, hm⟩, by rw [State.interrupt, if_neg hn, if_neg hm]⟩)))

/-- A host handler whose effect is given does its actions and halts the core or not. -/
theorem callHandler_given (s : State) (n : Byte) {e : HandlerEffect} {rest : List HandlerEffect} (h : s.handlerEffects = e :: rest) :
    s.callHandler n = .next (if e.halts then (e.actions.foldl State.handlerAct { s with handlerEffects := rest }).halt
      else e.actions.foldl State.handlerAct { s with handlerEffects := rest }) := by
  simp only [State.callHandler, h]

/-- A host handler whose effect is not given is refused. -/
theorem callHandler_notGiven (s : State) (n : Byte) (h : s.handlerEffects = []) :
    s.callHandler n = .refused (.handlerEffectNotGiven n) := by
  simp only [State.callHandler, h]

/-- What happens when nothing handles it. -/
theorem unhandled_cases (s : State) (n : Byte) :
    (s.params.unhandledInt = .fault ∧ s.unhandled n = s.raise (.unhandledInterrupt n (s.reg8 .ah))) ∨
    (s.params.unhandledInt = .noop ∧ s.unhandled n = s) := by
  unfold State.unhandled
  split
  · exact .inl ⟨by assumption, rfl⟩
  · exact .inr ⟨by assumption, rfl⟩

end Sys2Proof.Machine
end

