-- ==== Sys2Proof/Laws/PerInstr.lean ====
section
/-! SUPPORT. Per-instruction laws: the length of every encoding (30_encoding.md R90), one lemma for each constructor of Instr. -/

namespace Sys2Proof.Laws.EncodeLength

/-- An instruction is a sequence of 1 to 6 bytes. -/
def Statement (i : Instr) : Prop := 1 ≤ (encode i).length ∧ (encode i).length ≤ 6

theorem rm8Bytes_length (reg : BitVec 3) (o : Rm8) : 1 ≤ (rm8Bytes reg o).length ∧ (rm8Bytes reg o).length ≤ 3 := by
  cases o with
  | reg r => exact ⟨Nat.le.refl, Nat.le_of_ble_eq_true rfl⟩
  | mem m => cases m <;> simp [rm8Bytes, RegMem.map, rmBytes, wordBytes]

theorem rm16Bytes_length (reg : BitVec 3) (o : Rm16) : 1 ≤ (rm16Bytes reg o).length ∧ (rm16Bytes reg o).length ≤ 3 := by
  cases o with
  | reg r => exact ⟨Nat.le.refl, Nat.le_of_ble_eq_true rfl⟩
  | mem m => cases m <;> simp [rm16Bytes, RegMem.map, rmBytes, wordBytes]

/-- An opcode byte and an operand of at most 3 bytes, then at most 2 bytes more. -/
theorem of_operand {op : Byte} {operand tail : List Byte} (h : 1 ≤ operand.length ∧ operand.length ≤ 3) (ht : tail.length ≤ 2) :
    1 ≤ (op :: (operand ++ tail)).length ∧ (op :: (operand ++ tail)).length ≤ 6 := by
  simp only [List.length_cons, List.length_append]; omega

theorem of_operand_alone {op : Byte} {operand : List Byte} (h : 1 ≤ operand.length ∧ operand.length ≤ 3) :
    1 ≤ (op :: operand).length ∧ (op :: operand).length ≤ 6 := by
  simp only [List.length_cons]; omega

theorem addRm8R8 (d : Rm8) (s : Reg8) : Statement (.addRm8R8 d s) := of_operand_alone (rm8Bytes_length _ d)
theorem addRm16R16 (d : Rm16) (s : Reg16) : Statement (.addRm16R16 d s) := of_operand_alone (rm16Bytes_length _ d)
theorem addR8Rm8 (d : Reg8) (s : Rm8) : Statement (.addR8Rm8 d s) := of_operand_alone (rm8Bytes_length _ s)
theorem addR16Rm16 (d : Reg16) (s : Rm16) : Statement (.addR16Rm16 d s) := of_operand_alone (rm16Bytes_length _ s)
theorem addAlImm8 (v : Byte) : Statement (.addAlImm8 v) := ⟨Nat.le_of_ble_eq_true rfl, Nat.le_of_ble_eq_true rfl⟩
theorem addAxImm16 (v : Word) : Statement (.addAxImm16 v) := ⟨Nat.le_of_ble_eq_true rfl, Nat.le_of_ble_eq_true rfl⟩
theorem addRm8Imm8 (d : Rm8) (v : Byte) : Statement (.addRm8Imm8 d v) := of_operand (rm8Bytes_length _ d) (Nat.le_of_ble_eq_true rfl)
theorem addRm16Imm16 (d : Rm16) (v : Word) : Statement (.addRm16Imm16 d v) := of_operand (rm16Bytes_length _ d) (Nat.le_of_ble_eq_true rfl)
theorem addRm16Simm8 (d : Rm16) (v : Byte) : Statement (.addRm16Simm8 d v) := of_operand (rm16Bytes_length _ d) (Nat.le_of_ble_eq_true rfl)
theorem orRm8R8 (d : Rm8) (s : Reg8) : Statement (.orRm8R8 d s) := of_operand_alone (rm8Bytes_length _ d)
theorem orRm16R16 (d : Rm16) (s : Reg16) : Statement (.orRm16R16 d s) := of_operand_alone (rm16Bytes_length _ d)
theorem orR8Rm8 (d : Reg8) (s : Rm8) : Statement (.orR8Rm8 d s) := of_operand_alone (rm8Bytes_length _ s)
theorem orR16Rm16 (d : Reg16) (s : Rm16) : Statement (.orR16Rm16 d s) := of_operand_alone (rm16Bytes_length _ s)
theorem orAlImm8 (v : Byte) : Statement (.orAlImm8 v) := ⟨Nat.le_of_ble_eq_true rfl, Nat.le_of_ble_eq_true rfl⟩
theorem orAxImm16 (v : Word) : Statement (.orAxImm16 v) := ⟨Nat.le_of_ble_eq_true rfl, Nat.le_of_ble_eq_true rfl⟩
theorem orRm8Imm8 (d : Rm8) (v : Byte) : Statement (.orRm8Imm8 d v) := of_operand (rm8Bytes_length _ d) (Nat.le_of_ble_eq_true rfl)
theorem orRm16Imm16 (d : Rm16) (v : Word) : Statement (.orRm16Imm16 d v) := of_operand (rm16Bytes_length _ d) (Nat.le_of_ble_eq_true rfl)
theorem orRm16Simm8 (d : Rm16) (v : Byte) : Statement (.orRm16Simm8 d v) := of_operand (rm16Bytes_length _ d) (Nat.le_of_ble_eq_true rfl)
theorem adcRm8R8 (d : Rm8) (s : Reg8) : Statement (.adcRm8R8 d s) := of_operand_alone (rm8Bytes_length _ d)
theorem adcRm16R16 (d : Rm16) (s : Reg16) : Statement (.adcRm16R16 d s) := of_operand_alone (rm16Bytes_length _ d)
theorem adcR8Rm8 (d : Reg8) (s : Rm8) : Statement (.adcR8Rm8 d s) := of_operand_alone (rm8Bytes_length _ s)
theorem adcR16Rm16 (d : Reg16) (s : Rm16) : Statement (.adcR16Rm16 d s) := of_operand_alone (rm16Bytes_length _ s)
theorem adcAlImm8 (v : Byte) : Statement (.adcAlImm8 v) := ⟨Nat.le_of_ble_eq_true rfl, Nat.le_of_ble_eq_true rfl⟩
theorem adcAxImm16 (v : Word) : Statement (.adcAxImm16 v) := ⟨Nat.le_of_ble_eq_true rfl, Nat.le_of_ble_eq_true rfl⟩
theorem adcRm8Imm8 (d : Rm8) (v : Byte) : Statement (.adcRm8Imm8 d v) := of_operand (rm8Bytes_length _ d) (Nat.le_of_ble_eq_true rfl)
theorem adcRm16Imm16 (d : Rm16) (v : Word) : Statement (.adcRm16Imm16 d v) := of_operand (rm16Bytes_length _ d) (Nat.le_of_ble_eq_true rfl)
theorem adcRm16Simm8 (d : Rm16) (v : Byte) : Statement (.adcRm16Simm8 d v) := of_operand (rm16Bytes_length _ d) (Nat.le_of_ble_eq_true rfl)
theorem sbbRm8R8 (d : Rm8) (s : Reg8) : Statement (.sbbRm8R8 d s) := of_operand_alone (rm8Bytes_length _ d)
theorem sbbRm16R16 (d : Rm16) (s : Reg16) : Statement (.sbbRm16R16 d s) := of_operand_alone (rm16Bytes_length _ d)
theorem sbbR8Rm8 (d : Reg8) (s : Rm8) : Statement (.sbbR8Rm8 d s) := of_operand_alone (rm8Bytes_length _ s)
theorem sbbR16Rm16 (d : Reg16) (s : Rm16) : Statement (.sbbR16Rm16 d s) := of_operand_alone (rm16Bytes_length _ s)
theorem sbbAlImm8 (v : Byte) : Statement (.sbbAlImm8 v) := ⟨Nat.le_of_ble_eq_true rfl, Nat.le_of_ble_eq_true rfl⟩
theorem sbbAxImm16 (v : Word) : Statement (.sbbAxImm16 v) := ⟨Nat.le_of_ble_eq_true rfl, Nat.le_of_ble_eq_true rfl⟩
theorem sbbRm8Imm8 (d : Rm8) (v : Byte) : Statement (.sbbRm8Imm8 d v) := of_operand (rm8Bytes_length _ d) (Nat.le_of_ble_eq_true rfl)
theorem sbbRm16Imm16 (d : Rm16) (v : Word) : Statement (.sbbRm16Imm16 d v) := of_operand (rm16Bytes_length _ d) (Nat.le_of_ble_eq_true rfl)
theorem sbbRm16Simm8 (d : Rm16) (v : Byte) : Statement (.sbbRm16Simm8 d v) := of_operand (rm16Bytes_length _ d) (Nat.le_of_ble_eq_true rfl)
theorem andRm8R8 (d : Rm8) (s : Reg8) : Statement (.andRm8R8 d s) := of_operand_alone (rm8Bytes_length _ d)
theorem andRm16R16 (d : Rm16) (s : Reg16) : Statement (.andRm16R16 d s) := of_operand_alone (rm16Bytes_length _ d)
theorem andR8Rm8 (d : Reg8) (s : Rm8) : Statement (.andR8Rm8 d s) := of_operand_alone (rm8Bytes_length _ s)
theorem andR16Rm16 (d : Reg16) (s : Rm16) : Statement (.andR16Rm16 d s) := of_operand_alone (rm16Bytes_length _ s)
theorem andAlImm8 (v : Byte) : Statement (.andAlImm8 v) := ⟨Nat.le_of_ble_eq_true rfl, Nat.le_of_ble_eq_true rfl⟩
theorem andAxImm16 (v : Word) : Statement (.andAxImm16 v) := ⟨Nat.le_of_ble_eq_true rfl, Nat.le_of_ble_eq_true rfl⟩
theorem andRm8Imm8 (d : Rm8) (v : Byte) : Statement (.andRm8Imm8 d v) := of_operand (rm8Bytes_length _ d) (Nat.le_of_ble_eq_true rfl)
theorem andRm16Imm16 (d : Rm16) (v : Word) : Statement (.andRm16Imm16 d v) := of_operand (rm16Bytes_length _ d) (Nat.le_of_ble_eq_true rfl)
theorem andRm16Simm8 (d : Rm16) (v : Byte) : Statement (.andRm16Simm8 d v) := of_operand (rm16Bytes_length _ d) (Nat.le_of_ble_eq_true rfl)
theorem subRm8R8 (d : Rm8) (s : Reg8) : Statement (.subRm8R8 d s) := of_operand_alone (rm8Bytes_length _ d)
theorem subRm16R16 (d : Rm16) (s : Reg16) : Statement (.subRm16R16 d s) := of_operand_alone (rm16Bytes_length _ d)
theorem subR8Rm8 (d : Reg8) (s : Rm8) : Statement (.subR8Rm8 d s) := of_operand_alone (rm8Bytes_length _ s)
theorem subR16Rm16 (d : Reg16) (s : Rm16) : Statement (.subR16Rm16 d s) := of_operand_alone (rm16Bytes_length _ s)
theorem subAlImm8 (v : Byte) : Statement (.subAlImm8 v) := ⟨Nat.le_of_ble_eq_true rfl, Nat.le_of_ble_eq_true rfl⟩
theorem subAxImm16 (v : Word) : Statement (.subAxImm16 v) := ⟨Nat.le_of_ble_eq_true rfl, Nat.le_of_ble_eq_true rfl⟩
theorem subRm8Imm8 (d : Rm8) (v : Byte) : Statement (.subRm8Imm8 d v) := of_operand (rm8Bytes_length _ d) (Nat.le_of_ble_eq_true rfl)
theorem subRm16Imm16 (d : Rm16) (v : Word) : Statement (.subRm16Imm16 d v) := of_operand (rm16Bytes_length _ d) (Nat.le_of_ble_eq_true rfl)
theorem subRm16Simm8 (d : Rm16) (v : Byte) : Statement (.subRm16Simm8 d v) := of_operand (rm16Bytes_length _ d) (Nat.le_of_ble_eq_true rfl)
theorem xorRm8R8 (d : Rm8) (s : Reg8) : Statement (.xorRm8R8 d s) := of_operand_alone (rm8Bytes_length _ d)
theorem xorRm16R16 (d : Rm16) (s : Reg16) : Statement (.xorRm16R16 d s) := of_operand_alone (rm16Bytes_length _ d)
theorem xorR8Rm8 (d : Reg8) (s : Rm8) : Statement (.xorR8Rm8 d s) := of_operand_alone (rm8Bytes_length _ s)
theorem xorR16Rm16 (d : Reg16) (s : Rm16) : Statement (.xorR16Rm16 d s) := of_operand_alone (rm16Bytes_length _ s)
theorem xorAlImm8 (v : Byte) : Statement (.xorAlImm8 v) := ⟨Nat.le_of_ble_eq_true rfl, Nat.le_of_ble_eq_true rfl⟩
theorem xorAxImm16 (v : Word) : Statement (.xorAxImm16 v) := ⟨Nat.le_of_ble_eq_true rfl, Nat.le_of_ble_eq_true rfl⟩
theorem xorRm8Imm8 (d : Rm8) (v : Byte) : Statement (.xorRm8Imm8 d v) := of_operand (rm8Bytes_length _ d) (Nat.le_of_ble_eq_true rfl)
theorem xorRm16Imm16 (d : Rm16) (v : Word) : Statement (.xorRm16Imm16 d v) := of_operand (rm16Bytes_length _ d) (Nat.le_of_ble_eq_true rfl)
theorem xorRm16Simm8 (d : Rm16) (v : Byte) : Statement (.xorRm16Simm8 d v) := of_operand (rm16Bytes_length _ d) (Nat.le_of_ble_eq_true rfl)
theorem cmpRm8R8 (d : Rm8) (s : Reg8) : Statement (.cmpRm8R8 d s) := of_operand_alone (rm8Bytes_length _ d)
theorem cmpRm16R16 (d : Rm16) (s : Reg16) : Statement (.cmpRm16R16 d s) := of_operand_alone (rm16Bytes_length _ d)
theorem cmpR8Rm8 (d : Reg8) (s : Rm8) : Statement (.cmpR8Rm8 d s) := of_operand_alone (rm8Bytes_length _ s)
theorem cmpR16Rm16 (d : Reg16) (s : Rm16) : Statement (.cmpR16Rm16 d s) := of_operand_alone (rm16Bytes_length _ s)
theorem cmpAlImm8 (v : Byte) : Statement (.cmpAlImm8 v) := ⟨Nat.le_of_ble_eq_true rfl, Nat.le_of_ble_eq_true rfl⟩
theorem cmpAxImm16 (v : Word) : Statement (.cmpAxImm16 v) := ⟨Nat.le_of_ble_eq_true rfl, Nat.le_of_ble_eq_true rfl⟩
theorem cmpRm8Imm8 (d : Rm8) (v : Byte) : Statement (.cmpRm8Imm8 d v) := of_operand (rm8Bytes_length _ d) (Nat.le_of_ble_eq_true rfl)
theorem cmpRm16Imm16 (d : Rm16) (v : Word) : Statement (.cmpRm16Imm16 d v) := of_operand (rm16Bytes_length _ d) (Nat.le_of_ble_eq_true rfl)
theorem cmpRm16Simm8 (d : Rm16) (v : Byte) : Statement (.cmpRm16Simm8 d v) := of_operand (rm16Bytes_length _ d) (Nat.le_of_ble_eq_true rfl)
theorem pushEs : Statement (.pushEs) := ⟨Nat.le_of_ble_eq_true rfl, Nat.le_of_ble_eq_true rfl⟩
theorem pushCs : Statement (.pushCs) := ⟨Nat.le_of_ble_eq_true rfl, Nat.le_of_ble_eq_true rfl⟩
theorem pushSs : Statement (.pushSs) := ⟨Nat.le_of_ble_eq_true rfl, Nat.le_of_ble_eq_true rfl⟩
theorem pushDs : Statement (.pushDs) := ⟨Nat.le_of_ble_eq_true rfl, Nat.le_of_ble_eq_true rfl⟩
theorem popEs : Statement (.popEs) := ⟨Nat.le_of_ble_eq_true rfl, Nat.le_of_ble_eq_true rfl⟩
theorem popSs : Statement (.popSs) := ⟨Nat.le_of_ble_eq_true rfl, Nat.le_of_ble_eq_true rfl⟩
theorem popDs : Statement (.popDs) := ⟨Nat.le_of_ble_eq_true rfl, Nat.le_of_ble_eq_true rfl⟩
theorem incR16 (r : Reg16) : Statement (.incR16 r) := ⟨Nat.le_of_ble_eq_true rfl, Nat.le_of_ble_eq_true rfl⟩
theorem decR16 (r : Reg16) : Statement (.decR16 r) := ⟨Nat.le_of_ble_eq_true rfl, Nat.le_of_ble_eq_true rfl⟩
theorem pushR16 (r : Reg16) : Statement (.pushR16 r) := ⟨Nat.le_of_ble_eq_true rfl, Nat.le_of_ble_eq_true rfl⟩
theorem popR16 (r : Reg16) : Statement (.popR16 r) := ⟨Nat.le_of_ble_eq_true rfl, Nat.le_of_ble_eq_true rfl⟩
theorem joRel8 (disp : Byte) : Statement (.joRel8 disp) := ⟨Nat.le_of_ble_eq_true rfl, Nat.le_of_ble_eq_true rfl⟩
theorem jnoRel8 (disp : Byte) : Statement (.jnoRel8 disp) := ⟨Nat.le_of_ble_eq_true rfl, Nat.le_of_ble_eq_true rfl⟩
theorem jbRel8 (disp : Byte) : Statement (.jbRel8 disp) := ⟨Nat.le_of_ble_eq_true rfl, Nat.le_of_ble_eq_true rfl⟩
theorem jnbRel8 (disp : Byte) : Statement (.jnbRel8 disp) := ⟨Nat.le_of_ble_eq_true rfl, Nat.le_of_ble_eq_true rfl⟩
theorem jeRel8 (disp : Byte) : Statement (.jeRel8 disp) := ⟨Nat.le_of_ble_eq_true rfl, Nat.le_of_ble_eq_true rfl⟩
theorem jneRel8 (disp : Byte) : Statement (.jneRel8 disp) := ⟨Nat.le_of_ble_eq_true rfl, Nat.le_of_ble_eq_true rfl⟩
theorem jbeRel8 (disp : Byte) : Statement (.jbeRel8 disp) := ⟨Nat.le_of_ble_eq_true rfl, Nat.le_of_ble_eq_true rfl⟩
theorem jaRel8 (disp : Byte) : Statement (.jaRel8 disp) := ⟨Nat.le_of_ble_eq_true rfl, Nat.le_of_ble_eq_true rfl⟩
theorem jsRel8 (disp : Byte) : Statement (.jsRel8 disp) := ⟨Nat.le_of_ble_eq_true rfl, Nat.le_of_ble_eq_true rfl⟩
theorem jnsRel8 (disp : Byte) : Statement (.jnsRel8 disp) := ⟨Nat.le_of_ble_eq_true rfl, Nat.le_of_ble_eq_true rfl⟩
theorem jpRel8 (disp : Byte) : Statement (.jpRel8 disp) := ⟨Nat.le_of_ble_eq_true rfl, Nat.le_of_ble_eq_true rfl⟩
theorem jnpRel8 (disp : Byte) : Statement (.jnpRel8 disp) := ⟨Nat.le_of_ble_eq_true rfl, Nat.le_of_ble_eq_true rfl⟩
theorem jlRel8 (disp : Byte) : Statement (.jlRel8 disp) := ⟨Nat.le_of_ble_eq_true rfl, Nat.le_of_ble_eq_true rfl⟩
theorem jgeRel8 (disp : Byte) : Statement (.jgeRel8 disp) := ⟨Nat.le_of_ble_eq_true rfl, Nat.le_of_ble_eq_true rfl⟩
theorem jleRel8 (disp : Byte) : Statement (.jleRel8 disp) := ⟨Nat.le_of_ble_eq_true rfl, Nat.le_of_ble_eq_true rfl⟩
theorem jgRel8 (disp : Byte) : Statement (.jgRel8 disp) := ⟨Nat.le_of_ble_eq_true rfl, Nat.le_of_ble_eq_true rfl⟩
theorem testRm8R8 (d : Rm8) (s : Reg8) : Statement (.testRm8R8 d s) := of_operand_alone (rm8Bytes_length _ d)
theorem testRm16R16 (d : Rm16) (s : Reg16) : Statement (.testRm16R16 d s) := of_operand_alone (rm16Bytes_length _ d)
theorem movRm8R8 (d : Rm8) (s : Reg8) : Statement (.movRm8R8 d s) := of_operand_alone (rm8Bytes_length _ d)
theorem movRm16R16 (d : Rm16) (s : Reg16) : Statement (.movRm16R16 d s) := of_operand_alone (rm16Bytes_length _ d)
theorem movR8Rm8 (d : Reg8) (s : Rm8) : Statement (.movR8Rm8 d s) := of_operand_alone (rm8Bytes_length _ s)
theorem movR16Rm16 (d : Reg16) (s : Rm16) : Statement (.movR16Rm16 d s) := of_operand_alone (rm16Bytes_length _ s)
theorem movRm16Es (r : Rm16) : Statement (.movRm16Es r) := of_operand_alone (rm16Bytes_length _ r)
theorem movRm16Cs (r : Rm16) : Statement (.movRm16Cs r) := of_operand_alone (rm16Bytes_length _ r)
theorem movRm16Ss (r : Rm16) : Statement (.movRm16Ss r) := of_operand_alone (rm16Bytes_length _ r)
theorem movRm16Ds (r : Rm16) : Statement (.movRm16Ds r) := of_operand_alone (rm16Bytes_length _ r)
theorem movEsRm16 (r : Rm16) : Statement (.movEsRm16 r) := of_operand_alone (rm16Bytes_length _ r)
theorem movSsRm16 (r : Rm16) : Statement (.movSsRm16 r) := of_operand_alone (rm16Bytes_length _ r)
theorem movDsRm16 (r : Rm16) : Statement (.movDsRm16 r) := of_operand_alone (rm16Bytes_length _ r)
theorem popRm16 (r : Rm16) : Statement (.popRm16 r) := of_operand_alone (rm16Bytes_length _ r)
theorem nop : Statement (.nop) := ⟨Nat.le_of_ble_eq_true rfl, Nat.le_of_ble_eq_true rfl⟩
theorem cbw : Statement (.cbw) := ⟨Nat.le_of_ble_eq_true rfl, Nat.le_of_ble_eq_true rfl⟩
theorem cwd : Statement (.cwd) := ⟨Nat.le_of_ble_eq_true rfl, Nat.le_of_ble_eq_true rfl⟩
theorem callFar (off : Word) (seg : Word) : Statement (.callFar off seg) := ⟨Nat.le_of_ble_eq_true rfl, Nat.le_of_ble_eq_true rfl⟩
theorem sahf : Statement (.sahf) := ⟨Nat.le_of_ble_eq_true rfl, Nat.le_of_ble_eq_true rfl⟩
theorem lahf : Statement (.lahf) := ⟨Nat.le_of_ble_eq_true rfl, Nat.le_of_ble_eq_true rfl⟩
theorem movAlMoffs (off : Word) : Statement (.movAlMoffs off) := ⟨Nat.le_of_ble_eq_true rfl, Nat.le_of_ble_eq_true rfl⟩
theorem movAxMoffs (off : Word) : Statement (.movAxMoffs off) := ⟨Nat.le_of_ble_eq_true rfl, Nat.le_of_ble_eq_true rfl⟩
theorem movMoffsAl (off : Word) : Statement (.movMoffsAl off) := ⟨Nat.le_of_ble_eq_true rfl, Nat.le_of_ble_eq_true rfl⟩
theorem movMoffsAx (off : Word) : Statement (.movMoffsAx off) := ⟨Nat.le_of_ble_eq_true rfl, Nat.le_of_ble_eq_true rfl⟩
theorem movsb : Statement (.movsb) := ⟨Nat.le_of_ble_eq_true rfl, Nat.le_of_ble_eq_true rfl⟩
theorem movsw : Statement (.movsw) := ⟨Nat.le_of_ble_eq_true rfl, Nat.le_of_ble_eq_true rfl⟩
theorem cmpsb : Statement (.cmpsb) := ⟨Nat.le_of_ble_eq_true rfl, Nat.le_of_ble_eq_true rfl⟩
theorem cmpsw : Statement (.cmpsw) := ⟨Nat.le_of_ble_eq_true rfl, Nat.le_of_ble_eq_true rfl⟩
theorem testAlImm8 (v : Byte) : Statement (.testAlImm8 v) := ⟨Nat.le_of_ble_eq_true rfl, Nat.le_of_ble_eq_true rfl⟩
theorem testAxImm16 (v : Word) : Statement (.testAxImm16 v) := ⟨Nat.le_of_ble_eq_true rfl, Nat.le_of_ble_eq_true rfl⟩
theorem stosb : Statement (.stosb) := ⟨Nat.le_of_ble_eq_true rfl, Nat.le_of_ble_eq_true rfl⟩
theorem stosw : Statement (.stosw) := ⟨Nat.le_of_ble_eq_true rfl, Nat.le_of_ble_eq_true rfl⟩
theorem lodsb : Statement (.lodsb) := ⟨Nat.le_of_ble_eq_true rfl, Nat.le_of_ble_eq_true rfl⟩
theorem lodsw : Statement (.lodsw) := ⟨Nat.le_of_ble_eq_true rfl, Nat.le_of_ble_eq_true rfl⟩
theorem scasb : Statement (.scasb) := ⟨Nat.le_of_ble_eq_true rfl, Nat.le_of_ble_eq_true rfl⟩
theorem scasw : Statement (.scasw) := ⟨Nat.le_of_ble_eq_true rfl, Nat.le_of_ble_eq_true rfl⟩
theorem movR8Imm8 (d : Reg8) (v : Byte) : Statement (.movR8Imm8 d v) := ⟨Nat.le_of_ble_eq_true rfl, Nat.le_of_ble_eq_true rfl⟩
theorem movR16Imm16 (d : Reg16) (v : Word) : Statement (.movR16Imm16 d v) := ⟨Nat.le_of_ble_eq_true rfl, Nat.le_of_ble_eq_true rfl⟩
theorem retImm16 (v : Word) : Statement (.retImm16 v) := ⟨Nat.le_of_ble_eq_true rfl, Nat.le_of_ble_eq_true rfl⟩
theorem ret : Statement (.ret) := ⟨Nat.le_of_ble_eq_true rfl, Nat.le_of_ble_eq_true rfl⟩
theorem retfImm16 (v : Word) : Statement (.retfImm16 v) := ⟨Nat.le_of_ble_eq_true rfl, Nat.le_of_ble_eq_true rfl⟩
theorem retf : Statement (.retf) := ⟨Nat.le_of_ble_eq_true rfl, Nat.le_of_ble_eq_true rfl⟩
theorem intImm8 (v : Byte) : Statement (.intImm8 v) := ⟨Nat.le_of_ble_eq_true rfl, Nat.le_of_ble_eq_true rfl⟩
theorem iret : Statement (.iret) := ⟨Nat.le_of_ble_eq_true rfl, Nat.le_of_ble_eq_true rfl⟩
theorem rolRm8One (r : Rm8) : Statement (.rolRm8One r) := of_operand_alone (rm8Bytes_length _ r)
theorem rorRm8One (r : Rm8) : Statement (.rorRm8One r) := of_operand_alone (rm8Bytes_length _ r)
theorem rclRm8One (r : Rm8) : Statement (.rclRm8One r) := of_operand_alone (rm8Bytes_length _ r)
theorem rcrRm8One (r : Rm8) : Statement (.rcrRm8One r) := of_operand_alone (rm8Bytes_length _ r)
theorem shlRm8One (r : Rm8) : Statement (.shlRm8One r) := of_operand_alone (rm8Bytes_length _ r)
theorem shrRm8One (r : Rm8) : Statement (.shrRm8One r) := of_operand_alone (rm8Bytes_length _ r)
theorem sarRm8One (r : Rm8) : Statement (.sarRm8One r) := of_operand_alone (rm8Bytes_length _ r)
theorem rolRm16One (r : Rm16) : Statement (.rolRm16One r) := of_operand_alone (rm16Bytes_length _ r)
theorem rorRm16One (r : Rm16) : Statement (.rorRm16One r) := of_operand_alone (rm16Bytes_length _ r)
theorem rclRm16One (r : Rm16) : Statement (.rclRm16One r) := of_operand_alone (rm16Bytes_length _ r)
theorem rcrRm16One (r : Rm16) : Statement (.rcrRm16One r) := of_operand_alone (rm16Bytes_length _ r)
theorem shlRm16One (r : Rm16) : Statement (.shlRm16One r) := of_operand_alone (rm16Bytes_length _ r)
theorem shrRm16One (r : Rm16) : Statement (.shrRm16One r) := of_operand_alone (rm16Bytes_length _ r)
theorem sarRm16One (r : Rm16) : Statement (.sarRm16One r) := of_operand_alone (rm16Bytes_length _ r)
theorem rolRm8Cl (r : Rm8) : Statement (.rolRm8Cl r) := of_operand_alone (rm8Bytes_length _ r)
theorem rorRm8Cl (r : Rm8) : Statement (.rorRm8Cl r) := of_operand_alone (rm8Bytes_length _ r)
theorem rclRm8Cl (r : Rm8) : Statement (.rclRm8Cl r) := of_operand_alone (rm8Bytes_length _ r)
theorem rcrRm8Cl (r : Rm8) : Statement (.rcrRm8Cl r) := of_operand_alone (rm8Bytes_length _ r)
theorem shlRm8Cl (r : Rm8) : Statement (.shlRm8Cl r) := of_operand_alone (rm8Bytes_length _ r)
theorem shrRm8Cl (r : Rm8) : Statement (.shrRm8Cl r) := of_operand_alone (rm8Bytes_length _ r)
theorem sarRm8Cl (r : Rm8) : Statement (.sarRm8Cl r) := of_operand_alone (rm8Bytes_length _ r)
theorem rolRm16Cl (r : Rm16) : Statement (.rolRm16Cl r) := of_operand_alone (rm16Bytes_length _ r)
theorem rorRm16Cl (r : Rm16) : Statement (.rorRm16Cl r) := of_operand_alone (rm16Bytes_length _ r)
theorem rclRm16Cl (r : Rm16) : Statement (.rclRm16Cl r) := of_operand_alone (rm16Bytes_length _ r)
theorem rcrRm16Cl (r : Rm16) : Statement (.rcrRm16Cl r) := of_operand_alone (rm16Bytes_length _ r)
theorem shlRm16Cl (r : Rm16) : Statement (.shlRm16Cl r) := of_operand_alone (rm16Bytes_length _ r)
theorem shrRm16Cl (r : Rm16) : Statement (.shrRm16Cl r) := of_operand_alone (rm16Bytes_length _ r)
theorem sarRm16Cl (r : Rm16) : Statement (.sarRm16Cl r) := of_operand_alone (rm16Bytes_length _ r)
theorem loopneRel8 (disp : Byte) : Statement (.loopneRel8 disp) := ⟨Nat.le_of_ble_eq_true rfl, Nat.le_of_ble_eq_true rfl⟩
theorem loopeRel8 (disp : Byte) : Statement (.loopeRel8 disp) := ⟨Nat.le_of_ble_eq_true rfl, Nat.le_of_ble_eq_true rfl⟩
theorem loopRel8 (disp : Byte) : Statement (.loopRel8 disp) := ⟨Nat.le_of_ble_eq_true rfl, Nat.le_of_ble_eq_true rfl⟩
theorem callRel16 (disp : Word) : Statement (.callRel16 disp) := ⟨Nat.le_of_ble_eq_true rfl, Nat.le_of_ble_eq_true rfl⟩
theorem jmpRel16 (disp : Word) : Statement (.jmpRel16 disp) := ⟨Nat.le_of_ble_eq_true rfl, Nat.le_of_ble_eq_true rfl⟩
theorem jmpFar (off : Word) (seg : Word) : Statement (.jmpFar off seg) := ⟨Nat.le_of_ble_eq_true rfl, Nat.le_of_ble_eq_true rfl⟩
theorem jmpRel8 (disp : Byte) : Statement (.jmpRel8 disp) := ⟨Nat.le_of_ble_eq_true rfl, Nat.le_of_ble_eq_true rfl⟩
theorem repne (op : CompareOp) : Statement (.repne op) := ⟨Nat.le_of_ble_eq_true rfl, Nat.le_of_ble_eq_true rfl⟩
theorem rep (op : StringOp) : Statement (.rep op) := ⟨Nat.le_of_ble_eq_true rfl, Nat.le_of_ble_eq_true rfl⟩
theorem hlt : Statement (.hlt) := ⟨Nat.le_of_ble_eq_true rfl, Nat.le_of_ble_eq_true rfl⟩
theorem testRm8Imm8 (d : Rm8) (v : Byte) : Statement (.testRm8Imm8 d v) := of_operand (rm8Bytes_length _ d) (Nat.le_of_ble_eq_true rfl)
theorem notRm8 (r : Rm8) : Statement (.notRm8 r) := of_operand_alone (rm8Bytes_length _ r)
theorem negRm8 (r : Rm8) : Statement (.negRm8 r) := of_operand_alone (rm8Bytes_length _ r)
theorem mulRm8 (r : Rm8) : Statement (.mulRm8 r) := of_operand_alone (rm8Bytes_length _ r)
theorem imulRm8 (r : Rm8) : Statement (.imulRm8 r) := of_operand_alone (rm8Bytes_length _ r)
theorem divRm8 (r : Rm8) : Statement (.divRm8 r) := of_operand_alone (rm8Bytes_length _ r)
theorem idivRm8 (r : Rm8) : Statement (.idivRm8 r) := of_operand_alone (rm8Bytes_length _ r)
theorem testRm16Imm16 (d : Rm16) (v : Word) : Statement (.testRm16Imm16 d v) := of_operand (rm16Bytes_length _ d) (Nat.le_of_ble_eq_true rfl)
theorem notRm16 (r : Rm16) : Statement (.notRm16 r) := of_operand_alone (rm16Bytes_length _ r)
theorem negRm16 (r : Rm16) : Statement (.negRm16 r) := of_operand_alone (rm16Bytes_length _ r)
theorem mulRm16 (r : Rm16) : Statement (.mulRm16 r) := of_operand_alone (rm16Bytes_length _ r)
theorem imulRm16 (r : Rm16) : Statement (.imulRm16 r) := of_operand_alone (rm16Bytes_length _ r)
theorem divRm16 (r : Rm16) : Statement (.divRm16 r) := of_operand_alone (rm16Bytes_length _ r)
theorem idivRm16 (r : Rm16) : Statement (.idivRm16 r) := of_operand_alone (rm16Bytes_length _ r)
theorem clc : Statement (.clc) := ⟨Nat.le_of_ble_eq_true rfl, Nat.le_of_ble_eq_true rfl⟩
theorem stc : Statement (.stc) := ⟨Nat.le_of_ble_eq_true rfl, Nat.le_of_ble_eq_true rfl⟩
theorem cli : Statement (.cli) := ⟨Nat.le_of_ble_eq_true rfl, Nat.le_of_ble_eq_true rfl⟩
theorem sti : Statement (.sti) := ⟨Nat.le_of_ble_eq_true rfl, Nat.le_of_ble_eq_true rfl⟩
theorem cld : Statement (.cld) := ⟨Nat.le_of_ble_eq_true rfl, Nat.le_of_ble_eq_true rfl⟩
theorem std : Statement (.std) := ⟨Nat.le_of_ble_eq_true rfl, Nat.le_of_ble_eq_true rfl⟩
theorem incRm8 (r : Rm8) : Statement (.incRm8 r) := of_operand_alone (rm8Bytes_length _ r)
theorem decRm8 (r : Rm8) : Statement (.decRm8 r) := of_operand_alone (rm8Bytes_length _ r)
theorem incRm16 (r : Rm16) : Statement (.incRm16 r) := of_operand_alone (rm16Bytes_length _ r)
theorem decRm16 (r : Rm16) : Statement (.decRm16 r) := of_operand_alone (rm16Bytes_length _ r)
theorem pushRm16 (r : Rm16) : Statement (.pushRm16 r) := of_operand_alone (rm16Bytes_length _ r)

end Sys2Proof.Laws.EncodeLength
end

