-- ==== Sys2Proof/Laws/Step.lean ====
section
/-! SUPPORT. Everything a step can do, in four cases (40_execution_cycle.md R140, R160). -/

namespace Sys2Proof.Machine

/-- An attempt that answers a next state: the encoding is refused, or an instruction ran and the step ended. -/
theorem attempt_cases {s t : State} (h : s.attempt = .next t) :
    ((∃ e, decode s.fetchWindow = .error e) ∧ t = s.beginAttempt.raise .invalidOpcode) ∨
    (∃ i rest u, decode s.fetchWindow = .ok (i, rest) ∧
      exec i (s.beginAttempt.commitFetch (Config.maxInstrBytes - rest.length)) = .next u ∧ t = u.finish) := by
  unfold State.attempt at h
  split at h
  · cases h; exact .inl ⟨⟨_, ‹_›⟩, rfl⟩
  · rename_i i rest hd
    refine .inr ⟨i, rest, ?_⟩
    match he : exec i (s.beginAttempt.commitFetch (Config.maxInstrBytes - rest.length)), h with
    | .next u, h => cases h; exact ⟨u, hd, rfl, rfl⟩
    | .fault f, h => cases h
    | .refused r, h => cases h

/-- A core that can step either meets a breakpoint or attempts the instruction at CS:IP. -/
theorem step_of_canStep {s : State} (hc : s.canStep) :
    step s = if s.breakpointApplies then .next s.hitBreakpoint else s.attempt := by
  unfold step State.cycle
  rcases hc with h | h <;> simp [h]

/-- A step that answers a next state: the core was stopped, or it met a breakpoint, or the encoding is refused, or an instruction ran and the step ended. -/
theorem step_cases {s t : State} (h : step s = .next t) :
    ((s.runState = .halted ∨ s.runState = .faulted) ∧ t = s) ∨
    (s.canStep ∧ s.breakpointApplies = true ∧ t = s.hitBreakpoint) ∨
    (s.canStep ∧ s.breakpointApplies = false ∧ (∃ e, decode s.fetchWindow = .error e) ∧
      t = s.beginAttempt.raise .invalidOpcode) ∨
    (s.canStep ∧ s.breakpointApplies = false ∧ ∃ i rest u, decode s.fetchWindow = .ok (i, rest) ∧
      exec i (s.beginAttempt.commitFetch (Config.maxInstrBytes - rest.length)) = .next u ∧ t = u.finish) := by
  by_cases hc : s.canStep
  · rw [step_of_canStep hc] at h
    by_cases hb : s.breakpointApplies = true
    · rw [if_pos hb] at h; cases h; exact .inr (.inl ⟨hc, hb, rfl⟩)
    · rw [if_neg hb] at h
      have hb' : s.breakpointApplies = false := by simpa using hb
      rcases attempt_cases h with ⟨he, ht⟩ | h
      · exact .inr (.inr (.inl ⟨hc, hb', he, ht⟩))
      · exact .inr (.inr (.inr ⟨hc, hb', h⟩))
  · unfold step State.cycle at h
    cases hr : s.runState <;> simp only [hr] at h
    · exact absurd (.inl hr) hc
    · cases h
    · exact absurd (.inr hr) hc
    · cases h; exact .inl ⟨.inl rfl, rfl⟩
    · cases h; exact .inl ⟨.inr rfl, rfl⟩

/-- A core that can step and meets no breakpoint attempts the instruction at CS:IP. -/
theorem step_attempt {s : State} (hc : s.canStep) (hb : s.breakpointApplies = false) : step s = s.attempt := by
  simp [step_of_canStep hc, hb]

theorem attempt_ok {s : State} {i : Instr} {rest : List Byte} (h : decode s.fetchWindow = .ok (i, rest)) :
    s.attempt = finishOutcome (exec i (s.beginAttempt.commitFetch (Config.maxInstrBytes - rest.length))) := by
  simp [State.attempt, h]

theorem attempt_error {s : State} {e : DecodeError} (h : decode s.fetchWindow = .error e) :
    s.attempt = .next (s.beginAttempt.raise .invalidOpcode) := by
  simp [State.attempt, h]

/-! ## What the parts of a step do to each field -/

@[simp] theorem State.reg_beginAttempt (s : State) (r : RegId) : s.beginAttempt.reg r = s.reg r := rfl
@[simp] theorem State.byteAt_beginAttempt (s : State) (a : PAddr) : s.beginAttempt.byteAt a = s.byteAt a := rfl
@[simp] theorem State.beginAttempt_runState (s : State) : s.beginAttempt.runState = .running := rfl
@[simp] theorem State.beginAttempt_bpResume (s : State) : s.beginAttempt.bpResume = none := rfl
@[simp] theorem State.beginAttempt_trace (s : State) : s.beginAttempt.trace = s.trace ++ [.execute s.fetchAddr] := rfl
@[simp] theorem State.finish_regs (s : State) : s.finish.regs = s.regs := by unfold State.finish; split <;> rfl
@[simp] theorem State.finish_mem (s : State) : s.finish.mem = s.mem := by unfold State.finish; split <;> rfl
@[simp] theorem State.finish_trace (s : State) : s.finish.trace = s.trace := by unfold State.finish; split <;> rfl
@[simp] theorem State.finish_breakpoints (s : State) : s.finish.breakpoints = s.breakpoints := by
  unfold State.finish; split <;> rfl
@[simp] theorem State.finish_bpResume (s : State) : s.finish.bpResume = s.bpResume := by unfold State.finish; split <;> rfl
@[simp] theorem State.finish_faultRecord (s : State) : s.finish.faultRecord = s.faultRecord := by
  unfold State.finish; split <;> rfl
@[simp] theorem State.finish_exitCode (s : State) : s.finish.exitCode = s.exitCode := by unfold State.finish; split <;> rfl

theorem State.finish_ne_running (s : State) : s.finish.runState ≠ .running := by
  unfold State.finish; split <;> simp_all

theorem kept_commitFetch (s : State) (k : Nat) : Kept s (s.commitFetch k) { regs := [.ip] } :=
  kept_setReg s .ip _ (by decide)

theorem length_fetchWindow (s : State) : s.fetchWindow.length = Config.maxInstrBytes := by
  simp [State.fetchWindow]

end Sys2Proof.Machine
end

