-- ==== Sys2Proof/Tests/Slice0.lean ====
section
/-! SUPPORT. The model's own tests: ill-formed terms refused, words written out from the spec's encodings, single steps with the results of 95_test_vectors.md, and for each obligation with hypotheses a state and operands that meet them. -/

namespace Sys2Proof.Machine

/-! ## Well-formedness: a term no ModR/M byte encodes is refused (30_encoding.md R93) -/

theorem test_wellFormed_bp_needs_displacement : MemOperand.wellFormed (.noDisp .bp) = false := by decide
theorem test_wellFormed_refuses_byte_operand : ¬WellFormed (.notRm8 (.mem (.noDisp .bp))) := by decide
theorem test_wellFormed_refuses_word_operand : ¬WellFormed (.pushRm16 (.mem (.noDisp .bp))) := by decide
theorem test_wellFormed_refuses_source : ¬WellFormed (.addR16Rm16 .ax (.mem (.noDisp .bp))) := by decide
theorem test_wellFormed_admits_bp_with_displacement : WellFormed (.addR16Rm16 .ax (.mem (.disp8 .bp 0))) := by decide

/-! ## Decoding: for every constructor a word written out from 30_encoding.md R92 to R97, R101 and R123 -/

theorem test_decode_add :
    decode [0x00, 0x18] = .ok (.addRm8R8 (.mem (.noDisp .bxSi)) .bl, []) ∧
    decode [0x01, 0x76, 0xFE] = .ok (.addRm16R16 (.mem (.disp8 .bp 0xFE)) .si, []) ∧
    decode [0x02, 0xC9] = .ok (.addR8Rm8 .cl (.reg .cl), []) ∧
    decode [0x03, 0x26, 0x10, 0x00] = .ok (.addR16Rm16 .sp (.mem (.direct 0x0010)), []) ∧
    decode [0x04, 0xF0] = .ok (.addAlImm8 0xF0, []) ∧
    decode [0x05, 0x34, 0x12] = .ok (.addAxImm16 0x1234, []) ∧
    decode [0x80, 0x41, 0x7F, 0x85] = .ok (.addRm8Imm8 (.mem (.disp8 .bxDi 0x7F)) 0x85, []) ∧
    decode [0x81, 0xC2, 0xCD, 0xAB] = .ok (.addRm16Imm16 (.reg .dx) 0xABCD, []) ∧
    decode [0x83, 0x02, 0x85] = .ok (.addRm16Simm8 (.mem (.noDisp .bpSi)) 0x85, []) :=
  ⟨rfl, rfl, rfl, rfl, rfl, rfl, rfl, rfl, rfl⟩

theorem test_decode_or :
    decode [0x08, 0x3C] = .ok (.orRm8R8 (.mem (.noDisp .si)) .bh, []) ∧
    decode [0x09, 0xD3] = .ok (.orRm16R16 (.reg .bx) .dx, []) ∧
    decode [0x0A, 0x2F] = .ok (.orR8Rm8 .ch (.mem (.noDisp .bx)), []) ∧
    decode [0x0B, 0x00] = .ok (.orR16Rm16 .ax (.mem (.noDisp .bxSi)), []) ∧
    decode [0x0C, 0xF0] = .ok (.orAlImm8 0xF0, []) ∧
    decode [0x0D, 0x34, 0x12] = .ok (.orAxImm16 0x1234, []) ∧
    decode [0x80, 0xCC, 0x85] = .ok (.orRm8Imm8 (.reg .ah) 0x85, []) ∧
    decode [0x81, 0x8B, 0x34, 0x12, 0xCD, 0xAB] = .ok (.orRm16Imm16 (.mem (.disp16 .bpDi 0x1234)) 0xABCD, []) ∧
    decode [0x83, 0x0E, 0x10, 0x00, 0x85] = .ok (.orRm16Simm8 (.mem (.direct 0x0010)) 0x85, []) :=
  ⟨rfl, rfl, rfl, rfl, rfl, rfl, rfl, rfl, rfl⟩

theorem test_decode_adc :
    decode [0x10, 0xDD] = .ok (.adcRm8R8 (.reg .ch) .bl, []) ∧
    decode [0x11, 0xB6, 0x00, 0x80] = .ok (.adcRm16R16 (.mem (.disp16 .bp 0x8000)) .si, []) ∧
    decode [0x12, 0x0A] = .ok (.adcR8Rm8 .cl (.mem (.noDisp .bpSi)), []) ∧
    decode [0x13, 0xE6] = .ok (.adcR16Rm16 .sp (.reg .si), []) ∧
    decode [0x14, 0xF0] = .ok (.adcAlImm8 0xF0, []) ∧
    decode [0x15, 0x34, 0x12] = .ok (.adcAxImm16 0x1234, []) ∧
    decode [0x80, 0x55, 0x80, 0x85] = .ok (.adcRm8Imm8 (.mem (.disp8 .di 0x80)) 0x85, []) ∧
    decode [0x81, 0x17, 0xCD, 0xAB] = .ok (.adcRm16Imm16 (.mem (.noDisp .bx)) 0xABCD, []) ∧
    decode [0x83, 0xD7, 0x85] = .ok (.adcRm16Simm8 (.reg .di) 0x85, []) :=
  ⟨rfl, rfl, rfl, rfl, rfl, rfl, rfl, rfl, rfl⟩

theorem test_decode_sbb :
    decode [0x18, 0x7E, 0xFE] = .ok (.sbbRm8R8 (.mem (.disp8 .bp 0xFE)) .bh, []) ∧
    decode [0x19, 0x93, 0x34, 0x12] = .ok (.sbbRm16R16 (.mem (.disp16 .bpDi 0x1234)) .dx, []) ∧
    decode [0x1A, 0xE8] = .ok (.sbbR8Rm8 .ch (.reg .al), []) ∧
    decode [0x1B, 0x41, 0x7F] = .ok (.sbbR16Rm16 .ax (.mem (.disp8 .bxDi 0x7F)), []) ∧
    decode [0x1C, 0xF0] = .ok (.sbbAlImm8 0xF0, []) ∧
    decode [0x1D, 0x34, 0x12] = .ok (.sbbAxImm16 0x1234, []) ∧
    decode [0x80, 0x9E, 0x00, 0x80, 0x85] = .ok (.sbbRm8Imm8 (.mem (.disp16 .bp 0x8000)) 0x85, []) ∧
    decode [0x81, 0xD9, 0xCD, 0xAB] = .ok (.sbbRm16Imm16 (.reg .cx) 0xABCD, []) ∧
    decode [0x83, 0x1C, 0x85] = .ok (.sbbRm16Simm8 (.mem (.noDisp .si)) 0x85, []) :=
  ⟨rfl, rfl, rfl, rfl, rfl, rfl, rfl, rfl, rfl⟩

theorem test_decode_and :
    decode [0x20, 0x5D, 0x80] = .ok (.andRm8R8 (.mem (.disp8 .di 0x80)) .bl, []) ∧
    decode [0x21, 0xF2] = .ok (.andRm16R16 (.reg .dx) .si, []) ∧
    decode [0x22, 0x08] = .ok (.andR8Rm8 .cl (.mem (.noDisp .bxSi)), []) ∧
    decode [0x23, 0x66, 0xFE] = .ok (.andR16Rm16 .sp (.mem (.disp8 .bp 0xFE)), []) ∧
    decode [0x24, 0xF0] = .ok (.andAlImm8 0xF0, []) ∧
    decode [0x25, 0x34, 0x12] = .ok (.andAxImm16 0x1234, []) ∧
    decode [0x80, 0xE3, 0x85] = .ok (.andRm8Imm8 (.reg .bl) 0x85, []) ∧
    decode [0x81, 0x26, 0x10, 0x00, 0xCD, 0xAB] = .ok (.andRm16Imm16 (.mem (.direct 0x0010)) 0xABCD, []) ∧
    decode [0x83, 0x61, 0x7F, 0x85] = .ok (.andRm16Simm8 (.mem (.disp8 .bxDi 0x7F)) 0x85, []) :=
  ⟨rfl, rfl, rfl, rfl, rfl, rfl, rfl, rfl, rfl⟩

theorem test_decode_sub :
    decode [0x28, 0xFC] = .ok (.subRm8R8 (.reg .ah) .bh, []) ∧
    decode [0x29, 0x12] = .ok (.subRm16R16 (.mem (.noDisp .bpSi)) .dx, []) ∧
    decode [0x2A, 0x2C] = .ok (.subR8Rm8 .ch (.mem (.noDisp .si)), []) ∧
    decode [0x2B, 0xC5] = .ok (.subR16Rm16 .ax (.reg .bp), []) ∧
    decode [0x2C, 0xF0] = .ok (.subAlImm8 0xF0, []) ∧
    decode [0x2D, 0x34, 0x12] = .ok (.subAxImm16 0x1234, []) ∧
    decode [0x80, 0x2F, 0x85] = .ok (.subRm8Imm8 (.mem (.noDisp .bx)) 0x85, []) ∧
    decode [0x81, 0x28, 0xCD, 0xAB] = .ok (.subRm16Imm16 (.mem (.noDisp .bxSi)) 0xABCD, []) ∧
    decode [0x83, 0xEE, 0x85] = .ok (.subRm16Simm8 (.reg .si) 0x85, []) :=
  ⟨rfl, rfl, rfl, rfl, rfl, rfl, rfl, rfl, rfl⟩

theorem test_decode_xor :
    decode [0x30, 0x9B, 0x34, 0x12] = .ok (.xorRm8R8 (.mem (.disp16 .bpDi 0x1234)) .bl, []) ∧
    decode [0x31, 0x36, 0x10, 0x00] = .ok (.xorRm16R16 (.mem (.direct 0x0010)) .si, []) ∧
    decode [0x32, 0xCF] = .ok (.xorR8Rm8 .cl (.reg .bh), []) ∧
    decode [0x33, 0xA6, 0x00, 0x80] = .ok (.xorR16Rm16 .sp (.mem (.disp16 .bp 0x8000)), []) ∧
    decode [0x34, 0xF0] = .ok (.xorAlImm8 0xF0, []) ∧
    decode [0x35, 0x34, 0x12] = .ok (.xorAxImm16 0x1234, []) ∧
    decode [0x80, 0x32, 0x85] = .ok (.xorRm8Imm8 (.mem (.noDisp .bpSi)) 0x85, []) ∧
    decode [0x81, 0xF0, 0xCD, 0xAB] = .ok (.xorRm16Imm16 (.reg .ax) 0xABCD, []) ∧
    decode [0x83, 0x75, 0x80, 0x85] = .ok (.xorRm16Simm8 (.mem (.disp8 .di 0x80)) 0x85, []) :=
  ⟨rfl, rfl, rfl, rfl, rfl, rfl, rfl, rfl, rfl⟩

theorem test_decode_cmp :
    decode [0x38, 0x3F] = .ok (.cmpRm8R8 (.mem (.noDisp .bx)) .bh, []) ∧
    decode [0x39, 0xD1] = .ok (.cmpRm16R16 (.reg .cx) .dx, []) ∧
    decode [0x3A, 0x6E, 0xFE] = .ok (.cmpR8Rm8 .ch (.mem (.disp8 .bp 0xFE)), []) ∧
    decode [0x3B, 0x83, 0x34, 0x12] = .ok (.cmpR16Rm16 .ax (.mem (.disp16 .bpDi 0x1234)), []) ∧
    decode [0x3C, 0xF0] = .ok (.cmpAlImm8 0xF0, []) ∧
    decode [0x3D, 0x34, 0x12] = .ok (.cmpAxImm16 0x1234, []) ∧
    decode [0x80, 0xFA, 0x85] = .ok (.cmpRm8Imm8 (.reg .dl) 0x85, []) ∧
    decode [0x81, 0x79, 0x7F, 0xCD, 0xAB] = .ok (.cmpRm16Imm16 (.mem (.disp8 .bxDi 0x7F)) 0xABCD, []) ∧
    decode [0x83, 0xBE, 0x00, 0x80, 0x85] = .ok (.cmpRm16Simm8 (.mem (.disp16 .bp 0x8000)) 0x85, []) :=
  ⟨rfl, rfl, rfl, rfl, rfl, rfl, rfl, rfl, rfl⟩

theorem test_decode_stack :
    decode [0x06] = .ok (.pushEs, []) ∧
    decode [0x0E] = .ok (.pushCs, []) ∧
    decode [0x16] = .ok (.pushSs, []) ∧
    decode [0x1E] = .ok (.pushDs, []) ∧
    decode [0x07] = .ok (.popEs, []) ∧
    decode [0x17] = .ok (.popSs, []) ∧
    decode [0x1F] = .ok (.popDs, []) ∧
    decode [0x51] = .ok (.pushR16 .cx, []) ∧
    decode [0x5C] = .ok (.popR16 .sp, []) ∧
    decode [0x8F, 0x07] = .ok (.popRm16 (.mem (.noDisp .bx)), []) ∧
    decode [0xFF, 0xF7] = .ok (.pushRm16 (.reg .di), []) :=
  ⟨rfl, rfl, rfl, rfl, rfl, rfl, rfl, rfl, rfl, rfl, rfl⟩

theorem test_decode_inc_dec_neg :
    decode [0x43] = .ok (.incR16 .bx, []) ∧
    decode [0x4E] = .ok (.decR16 .si, []) ∧
    decode [0xF6, 0x18] = .ok (.negRm8 (.mem (.noDisp .bxSi)), []) ∧
    decode [0xF7, 0xDC] = .ok (.negRm16 (.reg .sp), []) ∧
    decode [0xFE, 0x83, 0x34, 0x12] = .ok (.incRm8 (.mem (.disp16 .bpDi 0x1234)), []) ∧
    decode [0xFE, 0xCE] = .ok (.decRm8 (.reg .dh), []) ∧
    decode [0xFF, 0x41, 0x7F] = .ok (.incRm16 (.mem (.disp8 .bxDi 0x7F)), []) ∧
    decode [0xFF, 0x8E, 0x00, 0x80] = .ok (.decRm16 (.mem (.disp16 .bp 0x8000)), []) :=
  ⟨rfl, rfl, rfl, rfl, rfl, rfl, rfl, rfl⟩

theorem test_decode_conditional_jumps :
    decode [0x70, 0xFB] = .ok (.joRel8 0xFB, []) ∧
    decode [0x71, 0xFB] = .ok (.jnoRel8 0xFB, []) ∧
    decode [0x72, 0xFB] = .ok (.jbRel8 0xFB, []) ∧
    decode [0x73, 0xFB] = .ok (.jnbRel8 0xFB, []) ∧
    decode [0x74, 0xFB] = .ok (.jeRel8 0xFB, []) ∧
    decode [0x75, 0xFB] = .ok (.jneRel8 0xFB, []) ∧
    decode [0x76, 0xFB] = .ok (.jbeRel8 0xFB, []) ∧
    decode [0x77, 0xFB] = .ok (.jaRel8 0xFB, []) ∧
    decode [0x78, 0xFB] = .ok (.jsRel8 0xFB, []) ∧
    decode [0x79, 0xFB] = .ok (.jnsRel8 0xFB, []) ∧
    decode [0x7A, 0xFB] = .ok (.jpRel8 0xFB, []) ∧
    decode [0x7B, 0xFB] = .ok (.jnpRel8 0xFB, []) ∧
    decode [0x7C, 0xFB] = .ok (.jlRel8 0xFB, []) ∧
    decode [0x7D, 0xFB] = .ok (.jgeRel8 0xFB, []) ∧
    decode [0x7E, 0xFB] = .ok (.jleRel8 0xFB, []) ∧
    decode [0x7F, 0xFB] = .ok (.jgRel8 0xFB, []) :=
  ⟨rfl, rfl, rfl, rfl, rfl, rfl, rfl, rfl, rfl, rfl, rfl, rfl, rfl, rfl, rfl, rfl⟩

theorem test_decode_test_not :
    decode [0x84, 0xFB] = .ok (.testRm8R8 (.reg .bl) .bh, []) ∧
    decode [0x85, 0x14] = .ok (.testRm16R16 (.mem (.noDisp .si)) .dx, []) ∧
    decode [0xA8, 0xF0] = .ok (.testAlImm8 0xF0, []) ∧
    decode [0xA9, 0x34, 0x12] = .ok (.testAxImm16 0x1234, []) ∧
    decode [0xF6, 0xC1, 0x85] = .ok (.testRm8Imm8 (.reg .cl) 0x85, []) ∧
    decode [0xF6, 0x17] = .ok (.notRm8 (.mem (.noDisp .bx)), []) ∧
    decode [0xF7, 0x86, 0x00, 0x80, 0xCD, 0xAB] = .ok (.testRm16Imm16 (.mem (.disp16 .bp 0x8000)) 0xABCD, []) ∧
    decode [0xF7, 0x12] = .ok (.notRm16 (.mem (.noDisp .bpSi)), []) :=
  ⟨rfl, rfl, rfl, rfl, rfl, rfl, rfl, rfl⟩

theorem test_decode_mov :
    decode [0x88, 0x6D, 0x80] = .ok (.movRm8R8 (.mem (.disp8 .di 0x80)) .ch, []) ∧
    decode [0x89, 0xC4] = .ok (.movRm16R16 (.reg .sp) .ax, []) ∧
    decode [0x8A, 0x18] = .ok (.movR8Rm8 .bl (.mem (.noDisp .bxSi)), []) ∧
    decode [0x8B, 0x76, 0xFE] = .ok (.movR16Rm16 .si (.mem (.disp8 .bp 0xFE)), []) ∧
    decode [0x8C, 0xC5] = .ok (.movRm16Es (.reg .bp), []) ∧
    decode [0x8C, 0x0E, 0x10, 0x00] = .ok (.movRm16Cs (.mem (.direct 0x0010)), []) ∧
    decode [0x8C, 0x51, 0x7F] = .ok (.movRm16Ss (.mem (.disp8 .bxDi 0x7F)), []) ∧
    decode [0x8C, 0xDE] = .ok (.movRm16Ds (.reg .si), []) ∧
    decode [0x8E, 0x02] = .ok (.movEsRm16 (.mem (.noDisp .bpSi)), []) ∧
    decode [0x8E, 0x14] = .ok (.movSsRm16 (.mem (.noDisp .si)), []) ∧
    decode [0x8E, 0xDF] = .ok (.movDsRm16 (.reg .di), []) ∧
    decode [0xA0, 0x34, 0x12] = .ok (.movAlMoffs 0x1234, []) ∧
    decode [0xA1, 0x34, 0x12] = .ok (.movAxMoffs 0x1234, []) ∧
    decode [0xA2, 0x34, 0x12] = .ok (.movMoffsAl 0x1234, []) ∧
    decode [0xA3, 0x34, 0x12] = .ok (.movMoffsAx 0x1234, []) ∧
    decode [0xB1, 0x9A] = .ok (.movR8Imm8 .cl 0x9A, []) ∧
    decode [0xBC, 0x78, 0x56] = .ok (.movR16Imm16 .sp 0x5678, []) :=
  ⟨rfl, rfl, rfl, rfl, rfl, rfl, rfl, rfl, rfl, rfl, rfl, rfl, rfl, rfl, rfl, rfl, rfl⟩

theorem test_decode_flags_misc :
    decode [0x90] = .ok (.nop, []) ∧
    decode [0x9E] = .ok (.sahf, []) ∧
    decode [0x9F] = .ok (.lahf, []) ∧
    decode [0xF4] = .ok (.hlt, []) ∧
    decode [0xF8] = .ok (.clc, []) ∧
    decode [0xF9] = .ok (.stc, []) ∧
    decode [0xFA] = .ok (.cli, []) ∧
    decode [0xFB] = .ok (.sti, []) ∧
    decode [0xFC] = .ok (.cld, []) ∧
    decode [0xFD] = .ok (.std, []) :=
  ⟨rfl, rfl, rfl, rfl, rfl, rfl, rfl, rfl, rfl, rfl⟩

theorem test_decode_multiply_divide :
    decode [0x98] = .ok (.cbw, []) ∧
    decode [0x99] = .ok (.cwd, []) ∧
    decode [0xF6, 0xE2] = .ok (.mulRm8 (.reg .dl), []) ∧
    decode [0xF6, 0xAB, 0x34, 0x12] = .ok (.imulRm8 (.mem (.disp16 .bpDi 0x1234)), []) ∧
    decode [0xF6, 0x36, 0x10, 0x00] = .ok (.divRm8 (.mem (.direct 0x0010)), []) ∧
    decode [0xF6, 0xFB] = .ok (.idivRm8 (.reg .bl), []) ∧
    decode [0xF7, 0x65, 0x80] = .ok (.mulRm16 (.mem (.disp8 .di 0x80)), []) ∧
    decode [0xF7, 0x2F] = .ok (.imulRm16 (.mem (.noDisp .bx)), []) ∧
    decode [0xF7, 0xF5] = .ok (.divRm16 (.reg .bp), []) ∧
    decode [0xF7, 0x7E, 0xFE] = .ok (.idivRm16 (.mem (.disp8 .bp 0xFE)), []) :=
  ⟨rfl, rfl, rfl, rfl, rfl, rfl, rfl, rfl, rfl, rfl⟩

theorem test_decode_jumps_calls :
    decode [0x9A, 0x34, 0x12, 0x00, 0xF0] = .ok (.callFar 0x1234 0xF000, []) ∧
    decode [0xC2, 0x34, 0x12] = .ok (.retImm16 0x1234, []) ∧
    decode [0xC3] = .ok (.ret, []) ∧
    decode [0xCA, 0x34, 0x12] = .ok (.retfImm16 0x1234, []) ∧
    decode [0xCB] = .ok (.retf, []) ∧
    decode [0xCD, 0xF0] = .ok (.intImm8 0xF0, []) ∧
    decode [0xCF] = .ok (.iret, []) ∧
    decode [0xE8, 0x34, 0x12] = .ok (.callRel16 0x1234, []) ∧
    decode [0xE9, 0x34, 0x12] = .ok (.jmpRel16 0x1234, []) ∧
    decode [0xEA, 0x34, 0x12, 0x00, 0xF0] = .ok (.jmpFar 0x1234 0xF000, []) ∧
    decode [0xEB, 0xFB] = .ok (.jmpRel8 0xFB, []) :=
  ⟨rfl, rfl, rfl, rfl, rfl, rfl, rfl, rfl, rfl, rfl, rfl⟩

theorem test_decode_strings :
    decode [0xA4] = .ok (.movsb, []) ∧
    decode [0xA5] = .ok (.movsw, []) ∧
    decode [0xA6] = .ok (.cmpsb, []) ∧
    decode [0xA7] = .ok (.cmpsw, []) ∧
    decode [0xAA] = .ok (.stosb, []) ∧
    decode [0xAB] = .ok (.stosw, []) ∧
    decode [0xAC] = .ok (.lodsb, []) ∧
    decode [0xAD] = .ok (.lodsw, []) ∧
    decode [0xAE] = .ok (.scasb, []) ∧
    decode [0xAF] = .ok (.scasw, []) ∧
    decode [0xF2, 0xA7] = .ok (.repne .cmpsw, []) ∧
    decode [0xF3, 0xAB] = .ok (.rep .stosw, []) :=
  ⟨rfl, rfl, rfl, rfl, rfl, rfl, rfl, rfl, rfl, rfl, rfl, rfl⟩

theorem test_decode_shifts :
    decode [0xD0, 0x00] = .ok (.rolRm8One (.mem (.noDisp .bxSi)), []) ∧
    decode [0xD0, 0xC8] = .ok (.rorRm8One (.reg .al), []) ∧
    decode [0xD0, 0x93, 0x34, 0x12] = .ok (.rclRm8One (.mem (.disp16 .bpDi 0x1234)), []) ∧
    decode [0xD0, 0x1E, 0x10, 0x00] = .ok (.rcrRm8One (.mem (.direct 0x0010)), []) ∧
    decode [0xD0, 0xE1] = .ok (.shlRm8One (.reg .cl), []) ∧
    decode [0xD0, 0xAE, 0x00, 0x80] = .ok (.shrRm8One (.mem (.disp16 .bp 0x8000)), []) ∧
    decode [0xD0, 0x3A] = .ok (.sarRm8One (.mem (.noDisp .bpSi)), []) ∧
    decode [0xD1, 0xC2] = .ok (.rolRm16One (.reg .dx), []) ∧
    decode [0xD1, 0x4D, 0x80] = .ok (.rorRm16One (.mem (.disp8 .di 0x80)), []) ∧
    decode [0xD1, 0x17] = .ok (.rclRm16One (.mem (.noDisp .bx)), []) ∧
    decode [0xD1, 0xDB] = .ok (.rcrRm16One (.reg .bx), []) ∧
    decode [0xD1, 0x66, 0xFE] = .ok (.shlRm16One (.mem (.disp8 .bp 0xFE)), []) ∧
    decode [0xD1, 0xAB, 0x34, 0x12] = .ok (.shrRm16One (.mem (.disp16 .bpDi 0x1234)), []) ∧
    decode [0xD1, 0xFC] = .ok (.sarRm16One (.reg .sp), []) ∧
    decode [0xD2, 0x41, 0x7F] = .ok (.rolRm8Cl (.mem (.disp8 .bxDi 0x7F)), []) ∧
    decode [0xD2, 0x8E, 0x00, 0x80] = .ok (.rorRm8Cl (.mem (.disp16 .bp 0x8000)), []) ∧
    decode [0xD2, 0xD5] = .ok (.rclRm8Cl (.reg .ch), []) ∧
    decode [0xD2, 0x1C] = .ok (.rcrRm8Cl (.mem (.noDisp .si)), []) ∧
    decode [0xD2, 0x65, 0x80] = .ok (.shlRm8Cl (.mem (.disp8 .di 0x80)), []) ∧
    decode [0xD2, 0xEE] = .ok (.shrRm8Cl (.reg .dh), []) ∧
    decode [0xD2, 0x38] = .ok (.sarRm8Cl (.mem (.noDisp .bxSi)), []) ∧
    decode [0xD3, 0x46, 0xFE] = .ok (.rolRm16Cl (.mem (.disp8 .bp 0xFE)), []) ∧
    decode [0xD3, 0xCF] = .ok (.rorRm16Cl (.reg .di), []) ∧
    decode [0xD3, 0x16, 0x10, 0x00] = .ok (.rclRm16Cl (.mem (.direct 0x0010)), []) ∧
    decode [0xD3, 0x59, 0x7F] = .ok (.rcrRm16Cl (.mem (.disp8 .bxDi 0x7F)), []) ∧
    decode [0xD3, 0xE0] = .ok (.shlRm16Cl (.reg .ax), []) ∧
    decode [0xD3, 0x2A] = .ok (.shrRm16Cl (.mem (.noDisp .bpSi)), []) ∧
    decode [0xD3, 0x3C] = .ok (.sarRm16Cl (.mem (.noDisp .si)), []) :=
  ⟨rfl, rfl, rfl, rfl, rfl, rfl, rfl, rfl, rfl, rfl, rfl, rfl, rfl, rfl, rfl, rfl, rfl, rfl, rfl, rfl, rfl, rfl, rfl, rfl, rfl, rfl, rfl, rfl⟩

theorem test_decode_loops :
    decode [0xE0, 0xFB] = .ok (.loopneRel8 0xFB, []) ∧
    decode [0xE1, 0xFB] = .ok (.loopeRel8 0xFB, []) ∧
    decode [0xE2, 0xFB] = .ok (.loopRel8 0xFB, []) :=
  ⟨rfl, rfl, rfl⟩

/-! ## Refused encodings (30_encoding.md R120, R121) -/

theorem test_decode_refuses_first_byte : decode [0xC6, 0x06, 0x00, 0x00, 0x05] = .error (.refusedOpcode 0xC6) := rfl
theorem test_decode_refuses_reg_field : decode [0xFF, 0xE0] = .error (.refusedExtension 0xFF 4) := rfl
theorem test_decode_refuses_pair : decode [0xF2, 0xA4] = .error (.refusedPair 0xF2 0xA4) := rfl

/-! ## Table words: bits numbered as opcode_table.json numbers them (30_encoding.md R99; log 12) -/

/-- The word `89 D8`, byte 0 in bits 15:8. -/
theorem test_table_word : decodeTableWord 16 0x89D8 = some (.movRm16R16 (.reg .ax) .bx) := by decide
theorem test_table_word_runs : ∃ t, step ((State.reset.setReg .bx 0x1234).withFetchWord 16 0x89D8) = .next t ∧ t.reg .ax = 0x1234 :=
  ⟨_, rfl, by decide⟩

/-! ## Steps: the start states and results of 95_test_vectors.md, one step each -/

/-- The reset state with bytes of memory, registers, and an instruction at CS:IP. -/
def start (mem : List (PAddr × Byte)) (regs : List (RegId × Word)) (code : List Byte) : State :=
  mem.foldl (fun s p => s.putByte p.1 p.2) ((regs.foldl (fun s p => s.setReg p.1 p.2) State.reset).placeAtFetch 0 code)

/-- The step from `s` changes exactly the listed registers and bytes of memory and sends `sent` to the host. -/
def endsAs (s : State) (regs : List (RegId × Word)) (mem : List (PAddr × Byte)) (sent : List Byte) (ret : StepReturn) : Bool :=
  match step s with
  | .next t =>
    t.regs = (regs.foldl (fun f p => f.put p.1 p.2) s.regs) && t.mem = (mem.foldl (fun s p => s.putByte p.1 p.2) s).mem &&
      t.hostOut = sent && t.stepReturn = ret
  | .fault _ | .refused _ => false

/-- T3: MOV AL,[BX]. -/
theorem test_vector_T3 : endsAs (start [(0x00204, 0x5A)] [(.ax, 0xFF00), (.bx, 0x0004)] [0x8A, 0x07]) [(.ax, 0xFF5A), (.flags, 0x0000), (.ip, 0x0002)] [] []
    .continues = true := by decide

/-- T5: MOV AX,[BX+8000h]. -/
theorem test_vector_T5 : endsAs (start [(0x01200, 0x88), (0x01201, 0x77)] [(.bx, 0x9000)] [0x8B, 0x87, 0x00, 0x80]) [(.ax, 0x7788), (.flags, 0x0000), (.ip, 0x0004)] [] []
    .continues = true := by decide

/-- T7: MOV [0010h],BX. -/
theorem test_vector_T7 : endsAs (start [] [(.bx, 0xBEEF)] [0x89, 0x1E, 0x10, 0x00]) [(.flags, 0x0000), (.ip, 0x0004)] [(0x00210, 0xEF), (0x00211, 0xBE)] []
    .continues = true := by decide

/-- T9: MOV BH,12h. -/
theorem test_vector_T9 : endsAs (start [] [(.bx, 0x00FF)] [0xB7, 0x12]) [(.bx, 0x12FF), (.flags, 0x0000), (.ip, 0x0002)] [] []
    .continues = true := by decide

/-- T14: MOV [FFFFh],AX. -/
theorem test_vector_T14 : endsAs (start [] [(.ax, 0xBBAA)] [0xA3, 0xFF, 0xFF]) [(.flags, 0x0000), (.ip, 0x0003)] [(0x101FF, 0xAA), (0x10200, 0xBB)] []
    .continues = true := by decide

/-- T15: MOV [000Fh],AX. -/
theorem test_vector_T15 : endsAs (start [] [(.ds, 0xFFFF), (.ax, 0xBBAA)] [0xA3, 0x0F, 0x00]) [(.flags, 0x0000), (.ip, 0x0003)] [(0x00000, 0xBB), (0xFFFFF, 0xAA)] []
    .continues = true := by decide

/-- T17: MOV AX,DS. -/
theorem test_vector_T17 : endsAs (start [] [] [0x8C, 0xD8]) [(.ax, 0x0020), (.flags, 0x0000), (.ip, 0x0002)] [] []
    .continues = true := by decide

/-- T18: MOV [0004h],CS. -/
theorem test_vector_T18 : endsAs (start [] [] [0x8C, 0x0E, 0x04, 0x00]) [(.flags, 0x0000), (.ip, 0x0004)] [(0x00204, 0x10), (0x00205, 0x00)] []
    .continues = true := by decide

/-- T20: MOV DS,AX. -/
theorem test_vector_T20 : endsAs (start [] [(.ax, 0x1000)] [0x8E, 0xD8]) [(.ds, 0x1000), (.flags, 0x0000), (.ip, 0x0002)] [] []
    .continues = true := by decide

/-- T31: PUSH SP. -/
theorem test_vector_T31 : endsAs (start [] [] [0x54]) [(.sp, 0x00FD), (.flags, 0x0000), (.ip, 0x0001)] [(0x003FD, 0xFF), (0x003FE, 0x00)] []
    .continues = true := by decide

/-- T33: PUSH DS. -/
theorem test_vector_T33 : endsAs (start [] [] [0x1E]) [(.sp, 0x00FD), (.flags, 0x0000), (.ip, 0x0001)] [(0x003FD, 0x20), (0x003FE, 0x00)] []
    .continues = true := by decide

/-- T35: PUSH word [0000h]. -/
theorem test_vector_T35 : endsAs (start [(0x00200, 0xCD), (0x00201, 0xAB)] [] [0xFF, 0x36, 0x00, 0x00]) [(.sp, 0x00FD), (.flags, 0x0000), (.ip, 0x0004)] [(0x003FD, 0xCD), (0x003FE, 0xAB)] []
    .continues = true := by decide

/-- T38: POP SP. -/
theorem test_vector_T38 : endsAs (start [(0x003FD, 0x34), (0x003FE, 0x12)] [(.sp, 0x00FD)] [0x5C]) [(.sp, 0x1234), (.flags, 0x0000), (.ip, 0x0001)] [] []
    .continues = true := by decide

/-- T40: POP SS. -/
theorem test_vector_T40 : endsAs (start [(0x003FD, 0x50), (0x003FE, 0x00)] [(.sp, 0x00FD)] [0x17]) [(.sp, 0x00FF), (.ss, 0x0050), (.flags, 0x0000), (.ip, 0x0001)] [] []
    .continues = true := by decide

/-- T42: POP word [0004h]. -/
theorem test_vector_T42 : endsAs (start [(0x003FD, 0x34), (0x003FE, 0x12)] [(.sp, 0x00FD)] [0x8F, 0x06, 0x04, 0x00]) [(.sp, 0x00FF), (.flags, 0x0000), (.ip, 0x0004)] [(0x00204, 0x34), (0x00205, 0x12)] []
    .continues = true := by decide

/-- T43: POP CX. -/
theorem test_vector_T43 : endsAs (start [(0x003FD, 0x34), (0x003FE, 0x12)] [(.sp, 0x00FD)] [0x8F, 0xC1]) [(.cx, 0x1234), (.sp, 0x00FF), (.flags, 0x0000), (.ip, 0x0002)] [] []
    .continues = true := by decide

/-- T46: PUSH AX. -/
theorem test_vector_T46 : endsAs (start [] [(.sp, 0x0001), (.ax, 0xBEEF)] [0x50]) [(.sp, 0xFFFF), (.flags, 0x0000), (.ip, 0x0001)] [(0x102FF, 0xEF), (0x10300, 0xBE)] []
    .continues = true := by decide

/-- A2: ADD AL,BL. -/
theorem test_vector_A2 : endsAs (start [] [(.ax, 0x00FF), (.bx, 0x0001)] [0x00, 0xD8]) [(.ax, 0x0000), (.flags, 0x0055), (.ip, 0x0002)] [] []
    .continues = true := by decide

/-- A3: ADD AL,BL. -/
theorem test_vector_A3 : endsAs (start [] [(.ax, 0x007F), (.bx, 0x0001)] [0x00, 0xD8]) [(.ax, 0x0080), (.flags, 0x0890), (.ip, 0x0002)] [] []
    .continues = true := by decide

/-- A8: ADD AX,[0000h]. -/
theorem test_vector_A8 : endsAs (start [(0x00200, 0xFF), (0x00201, 0x7F)] [(.ax, 0x0001)] [0x03, 0x06, 0x00, 0x00]) [(.ax, 0x8000), (.flags, 0x0894), (.ip, 0x0004)] [] []
    .continues = true := by decide

/-- A9: ADD [BX],AX. -/
theorem test_vector_A9 : endsAs (start [(0x00210, 0xFF), (0x00211, 0x00)] [(.ax, 0x0102), (.bx, 0x0010)] [0x01, 0x07]) [(.flags, 0x0010), (.ip, 0x0002)] [(0x00210, 0x01), (0x00211, 0x02)] []
    .continues = true := by decide

/-- A12: ADD AX,-01h. -/
theorem test_vector_A12 : endsAs (start [] [(.ax, 0x0001)] [0x83, 0xC0, 0xFF]) [(.ax, 0x0000), (.flags, 0x0055), (.ip, 0x0003)] [] []
    .continues = true := by decide

/-- A22: ADC AL,BL. -/
theorem test_vector_A22 : endsAs (start [] [(.ax, 0x007F), (.bx, 0x0000), (.flags, 0x0001)] [0x10, 0xD8]) [(.ax, 0x0080), (.flags, 0x0890), (.ip, 0x0002)] [] []
    .continues = true := by decide

/-- A33: SUB AL,01h. -/
theorem test_vector_A33 : endsAs (start [] [(.ax, 0x0080)] [0x80, 0xE8, 0x01]) [(.ax, 0x007F), (.flags, 0x0810), (.ip, 0x0003)] [] []
    .continues = true := by decide

/-- A41: SBB AL,BL. -/
theorem test_vector_A41 : endsAs (start [] [(.ax, 0x0000), (.bx, 0x00FF), (.flags, 0x0001)] [0x18, 0xD8]) [(.flags, 0x0055), (.ip, 0x0002)] [] []
    .continues = true := by decide

/-- A43: SBB BX,+01h. -/
theorem test_vector_A43 : endsAs (start [] [(.bx, 0x8000), (.flags, 0x0001)] [0x83, 0xDB, 0x01]) [(.bx, 0x7FFE), (.flags, 0x0810), (.ip, 0x0003)] [] []
    .continues = true := by decide

/-- A53: CMP [BX],AX. -/
theorem test_vector_A53 : endsAs (start [(0x00210, 0x34), (0x00211, 0x12)] [(.ax, 0x1234), (.bx, 0x0010)] [0x39, 0x07]) [(.flags, 0x0044), (.ip, 0x0002)] [] []
    .continues = true := by decide

/-- A56: CMP AL,AH. -/
theorem test_vector_A56 : endsAs (start [] [(.ax, 0x0201)] [0x3A, 0xC4]) [(.flags, 0x0095), (.ip, 0x0002)] [] []
    .continues = true := by decide

/-- A60: INC AX. -/
theorem test_vector_A60 : endsAs (start [] [(.ax, 0xFFFF), (.flags, 0x0001)] [0x40]) [(.ax, 0x0000), (.flags, 0x0055), (.ip, 0x0001)] [] []
    .continues = true := by decide

/-- A64: INC word [0000h]. -/
theorem test_vector_A64 : endsAs (start [(0x00200, 0xFF), (0x00201, 0x00)] [] [0xFF, 0x06, 0x00, 0x00]) [(.flags, 0x0014), (.ip, 0x0004)] [(0x00200, 0x00), (0x00201, 0x01)] []
    .continues = true := by decide

/-- A72: DEC CX. -/
theorem test_vector_A72 : endsAs (start [] [(.cx, 0x0001), (.flags, 0x0001)] [0x49]) [(.cx, 0x0000), (.flags, 0x0045), (.ip, 0x0001)] [] []
    .continues = true := by decide

/-- A74: DEC word [BP-02h]. -/
theorem test_vector_A74 : endsAs (start [(0x00380, 0x00), (0x00381, 0x80)] [(.bp, 0x0082)] [0xFF, 0x4E, 0xFE]) [(.flags, 0x0814), (.ip, 0x0003)] [(0x00380, 0xFF), (0x00381, 0x7F)] []
    .continues = true := by decide

/-- A81: NEG AL. -/
theorem test_vector_A81 : endsAs (start [] [(.ax, 0x0080)] [0xF6, 0xD8]) [(.flags, 0x0881), (.ip, 0x0002)] [] []
    .continues = true := by decide

/-- A84: NEG word [0000h]. -/
theorem test_vector_A84 : endsAs (start [(0x00200, 0x10), (0x00201, 0x00)] [] [0xF7, 0x1E, 0x00, 0x00]) [(.flags, 0x0085), (.ip, 0x0004)] [(0x00200, 0xF0), (0x00201, 0xFF)] []
    .continues = true := by decide

/-- L3: AND AX,-10h. -/
theorem test_vector_L3 : endsAs (start [] [(.ax, 0x1234)] [0x83, 0xE0, 0xF0]) [(.ax, 0x1230), (.flags, 0x0004), (.ip, 0x0003)] [] []
    .continues = true := by decide

/-- L4: AND [BX],AL. -/
theorem test_vector_L4 : endsAs (start [(0x00210, 0xAA)] [(.ax, 0x000F), (.bx, 0x0010)] [0x20, 0x07]) [(.flags, 0x0004), (.ip, 0x0002)] [(0x00210, 0x0A)] []
    .continues = true := by decide

/-- L13: OR BX,[0000h]. -/
theorem test_vector_L13 : endsAs (start [(0x00200, 0x0F), (0x00201, 0x80)] [(.bx, 0x00F0)] [0x0B, 0x1E, 0x00, 0x00]) [(.bx, 0x80FF), (.flags, 0x0084), (.ip, 0x0004)] [] []
    .continues = true := by decide

/-- L23: XOR word [0000h],FFFFh. -/
theorem test_vector_L23 : endsAs (start [(0x00200, 0x55), (0x00201, 0xAA)] [] [0x81, 0x36, 0x00, 0x00, 0xFF, 0xFF]) [(.flags, 0x0004), (.ip, 0x0006)] [(0x00200, 0xAA), (0x00201, 0x55)] []
    .continues = true := by decide

/-- L34: TEST [BX],AL. -/
theorem test_vector_L34 : endsAs (start [(0x00200, 0x1F)] [(.ax, 0x00F0), (.bx, 0x0000)] [0x84, 0x07]) [(.flags, 0x0000), (.ip, 0x0002)] [] []
    .continues = true := by decide

/-- L35: TEST AX,8000h. -/
theorem test_vector_L35 : endsAs (start [] [(.ax, 0xFFFF)] [0xA9, 0x00, 0x80]) [(.flags, 0x0084), (.ip, 0x0003)] [] []
    .continues = true := by decide

/-- L40: NOT AL. -/
theorem test_vector_L40 : endsAs (start [] [(.ax, 0x0055), (.flags, 0x08D5)] [0xF6, 0xD0]) [(.ax, 0x00AA), (.flags, 0x08D5), (.ip, 0x0002)] [] []
    .continues = true := by decide

/-- L42: NOT byte [BX]. -/
theorem test_vector_L42 : endsAs (start [(0x00210, 0x0F)] [(.bx, 0x0010)] [0xF6, 0x17]) [(.flags, 0x0000), (.ip, 0x0002)] [(0x00210, 0xF0)] []
    .continues = true := by decide

/-- H1: ROL AL,1. -/
theorem test_vector_H1 : endsAs (start [] [(.ax, 0x0081)] [0xD0, 0xC0]) [(.ax, 0x0003), (.flags, 0x0801), (.ip, 0x0002)] [] []
    .continues = true := by decide

/-- H4: ROR AL,1. -/
theorem test_vector_H4 : endsAs (start [] [(.ax, 0x0001)] [0xD0, 0xC8]) [(.ax, 0x0080), (.flags, 0x0801), (.ip, 0x0002)] [] []
    .continues = true := by decide

/-- H6: RCL AL,1. -/
theorem test_vector_H6 : endsAs (start [] [(.ax, 0x0001), (.flags, 0x0001)] [0xD0, 0xD0]) [(.ax, 0x0003), (.flags, 0x0000), (.ip, 0x0002)] [] []
    .continues = true := by decide

/-- H8: RCR AL,1. -/
theorem test_vector_H8 : endsAs (start [] [(.ax, 0x0000), (.flags, 0x0001)] [0xD0, 0xD8]) [(.ax, 0x0080), (.flags, 0x0800), (.ip, 0x0002)] [] []
    .continues = true := by decide

/-- H11: SHL AL,1. -/
theorem test_vector_H11 : endsAs (start [] [(.ax, 0x0080), (.flags, 0x0010)] [0xD0, 0xE0]) [(.ax, 0x0000), (.flags, 0x0855), (.ip, 0x0002)] [] []
    .continues = true := by decide

/-- H13: SAR AL,1. -/
theorem test_vector_H13 : endsAs (start [] [(.ax, 0x0081)] [0xD0, 0xF8]) [(.ax, 0x00C0), (.flags, 0x0085), (.ip, 0x0002)] [] []
    .continues = true := by decide

/-- H24: SHL AL,CL. -/
theorem test_vector_H24 : endsAs (start [] [(.ax, 0x0001), (.cx, 0x0008)] [0xD2, 0xE0]) [(.ax, 0x0000), (.flags, 0x0045), (.ip, 0x0002)] [] []
    .continues = true := by decide

/-- H28: SAR AL,CL. -/
theorem test_vector_H28 : endsAs (start [] [(.ax, 0x007F), (.cx, 0x0020)] [0xD2, 0xF8]) [(.ax, 0x0000), (.flags, 0x0044), (.ip, 0x0002)] [] []
    .continues = true := by decide

/-- H29: RCL AL,CL. -/
theorem test_vector_H29 : endsAs (start [] [(.ax, 0x00A5), (.cx, 0x0009), (.flags, 0x0001)] [0xD2, 0xD0]) [(.flags, 0x0001), (.ip, 0x0002)] [] []
    .continues = true := by decide

/-- H32: RCR AX,CL. -/
theorem test_vector_H32 : endsAs (start [] [(.ax, 0x0001), (.cx, 0x0002), (.flags, 0x0001)] [0xD3, 0xD8]) [(.ax, 0xC000), (.flags, 0x0000), (.ip, 0x0002)] [] []
    .continues = true := by decide

/-- H34: SHL CL,CL. -/
theorem test_vector_H34 : endsAs (start [] [(.cx, 0x0003)] [0xD2, 0xE1]) [(.cx, 0x0018), (.flags, 0x0004), (.ip, 0x0002)] [] []
    .continues = true := by decide

/-- H36: SHR word [0000h],1. -/
theorem test_vector_H36 : endsAs (start [(0x00200, 0x01), (0x00201, 0x80)] [] [0xD1, 0x2E, 0x00, 0x00]) [(.flags, 0x0805), (.ip, 0x0004)] [(0x00200, 0x00), (0x00201, 0x40)] []
    .continues = true := by decide

/-- M1: MUL BL. -/
theorem test_vector_M1 : endsAs (start [] [(.ax, 0xFF05), (.bx, 0x000A), (.flags, 0x00D4)] [0xF6, 0xE3]) [(.ax, 0x0032), (.flags, 0x00D4), (.ip, 0x0002)] [] []
    .continues = true := by decide

/-- M4: MUL BX. -/
theorem test_vector_M4 : endsAs (start [] [(.ax, 0xFFFF), (.bx, 0xFFFF)] [0xF7, 0xE3]) [(.ax, 0x0001), (.dx, 0xFFFE), (.flags, 0x0801), (.ip, 0x0002)] [] []
    .continues = true := by decide

/-- M11: IMUL BL. -/
theorem test_vector_M11 : endsAs (start [] [(.ax, 0x0080), (.bx, 0x0080)] [0xF6, 0xEB]) [(.ax, 0x4000), (.flags, 0x0801), (.ip, 0x0002)] [] []
    .continues = true := by decide

/-- M14: IMUL BX. -/
theorem test_vector_M14 : endsAs (start [] [(.ax, 0xFFFF), (.bx, 0x0002)] [0xF7, 0xEB]) [(.ax, 0xFFFE), (.dx, 0xFFFF), (.flags, 0x0000), (.ip, 0x0002)] [] []
    .continues = true := by decide

/-- M20: DIV BL. -/
theorem test_vector_M20 : endsAs (start [] [(.ax, 0x0064), (.bx, 0x0003), (.flags, 0x08D5)] [0xF6, 0xF3]) [(.ax, 0x0121), (.flags, 0x08D5), (.ip, 0x0002)] [] []
    .continues = true := by decide

/-- M22: DIV BL. -/
theorem test_vector_M22 : endsAs (start [] [(.ax, 0x0100), (.bx, 0x0001)] [0xF6, 0xF3]) [(.flags, 0x0000), (.ip, 0x0002)] [] []
    (.fault (some .divideError)) = true := by decide

/-- M24: DIV BX. -/
theorem test_vector_M24 : endsAs (start [] [(.dx, 0x0001), (.ax, 0x0000), (.bx, 0x0002)] [0xF7, 0xF3]) [(.ax, 0x8000), (.dx, 0x0000), (.flags, 0x0000), (.ip, 0x0002)] [] []
    .continues = true := by decide

/-- M27: DIV byte [0000h]. -/
theorem test_vector_M27 : endsAs (start [] [(.ax, 0x0009)] [0xF6, 0x36, 0x00, 0x00]) [(.flags, 0x0000), (.ip, 0x0004)] [] []
    (.fault (some .divideError)) = true := by decide

/-- M33: IDIV BL. -/
theorem test_vector_M33 : endsAs (start [] [(.ax, 0xFFF9), (.bx, 0x00FE)] [0xF6, 0xFB]) [(.ax, 0xFF03), (.flags, 0x0000), (.ip, 0x0002)] [] []
    .continues = true := by decide

/-- M37: IDIV BL. -/
theorem test_vector_M37 : endsAs (start [] [(.ax, 0xFF80), (.bx, 0x0001)] [0xF6, 0xFB]) [(.flags, 0x0000), (.ip, 0x0002)] [] []
    (.fault (some .divideError)) = true := by decide

/-- M43: IDIV BX. -/
theorem test_vector_M43 : endsAs (start [] [(.dx, 0x0000), (.ax, 0x7FFF), (.bx, 0xFFFF)] [0xF7, 0xFB]) [(.ax, 0x8001), (.flags, 0x0000), (.ip, 0x0002)] [] []
    .continues = true := by decide

/-- M50: CBW. -/
theorem test_vector_M50 : endsAs (start [] [(.ax, 0x0080)] [0x98]) [(.ax, 0xFF80), (.flags, 0x0000), (.ip, 0x0001)] [] []
    .continues = true := by decide

/-- M52: CWD. -/
theorem test_vector_M52 : endsAs (start [] [(.ax, 0x8000), (.dx, 0x1234)] [0x99]) [(.dx, 0xFFFF), (.flags, 0x0000), (.ip, 0x0001)] [] []
    .continues = true := by decide

/-- F2: LAHF. -/
theorem test_vector_F2 : endsAs (start [] [(.flags, 0x0FD5)] [0x9F]) [(.ax, 0xD700), (.flags, 0x0FD5), (.ip, 0x0001)] [] []
    .continues = true := by decide

/-- F4: SAHF. -/
theorem test_vector_F4 : endsAs (start [] [(.ax, 0xFF00), (.flags, 0x0C00)] [0x9E]) [(.flags, 0x0CD5), (.ip, 0x0001)] [] []
    .continues = true := by decide

/-- F10: CLC. -/
theorem test_vector_F10 : endsAs (start [] [(.flags, 0x0041)] [0xF8]) [(.flags, 0x0040), (.ip, 0x0001)] [] []
    .continues = true := by decide

/-- F13: CLI. -/
theorem test_vector_F13 : endsAs (start [] [(.flags, 0x0200)] [0xFA]) [(.flags, 0x0000), (.ip, 0x0001)] [] []
    .continues = true := by decide

/-- F15: CLD. -/
theorem test_vector_F15 : endsAs (start [] [(.flags, 0x0401)] [0xFC]) [(.flags, 0x0001), (.ip, 0x0001)] [] []
    .continues = true := by decide

/-- F16: STD. -/
theorem test_vector_F16 : endsAs (start [] [] [0xFD]) [(.flags, 0x0400), (.ip, 0x0001)] [] []
    .continues = true := by decide

/-- F17: NOP. -/
theorem test_vector_F17 : endsAs (start [] [(.flags, 0x08D5)] [0x90]) [(.flags, 0x08D5), (.ip, 0x0001)] [] []
    .continues = true := by decide

/-- F18: HLT. -/
theorem test_vector_F18 : endsAs (start [] [] [0xF4]) [(.flags, 0x0000), (.ip, 0x0001)] [] []
    .halted = true := by decide

/-- C3: JMP short FF82h. -/
theorem test_vector_C3 : endsAs (start [] [] [0xEB, 0x80]) [(.flags, 0x0000), (.ip, 0xFF82)] [] []
    .continues = true := by decide

/-- C7: JMP 8003h. -/
theorem test_vector_C7 : endsAs (start [] [(.ip, 0x9000)] [0xE9, 0x00, 0x80]) [(.flags, 0x0000), (.ip, 0x1003)] [] []
    .continues = true := by decide

/-- C9: JMP F000h:1234h. -/
theorem test_vector_C9 : endsAs (start [] [] [0xEA, 0x34, 0x12, 0x00, 0xF0]) [(.cs, 0xF000), (.flags, 0x0000), (.ip, 0x1234)] [] []
    .continues = true := by decide

/-- C10: JNE 0012h. -/
theorem test_vector_C10 : endsAs (start [] [(.flags, 0x0040)] [0x75, 0x10]) [(.flags, 0x0040), (.ip, 0x0002)] [] []
    .continues = true := by decide

/-- C16: JG FFF2h. -/
theorem test_vector_C16 : endsAs (start [] [(.ip, 0x0100)] [0x7F, 0xF0]) [(.flags, 0x0000), (.ip, 0x00F2)] [] []
    .continues = true := by decide

/-- C22: CALL 0000h. -/
theorem test_vector_C22 : endsAs (start [] [(.ip, 0x0010)] [0xE8, 0xFD, 0xFF]) [(.sp, 0x00FD), (.flags, 0x0000), (.ip, 0x0010)] [(0x003FD, 0x13), (0x003FE, 0x00)] []
    .continues = true := by decide

/-- C25: RET FFFFh. -/
theorem test_vector_C25 : endsAs (start [(0x003FD, 0x00), (0x003FE, 0x00)] [(.sp, 0x00FD)] [0xC2, 0xFF, 0xFF]) [(.sp, 0x00FE), (.flags, 0x0000), (.ip, 0x0000)] [] []
    .continues = true := by decide

/-- C26: CALL 0040h:0000h. -/
theorem test_vector_C26 : endsAs (start [] [] [0x9A, 0x00, 0x00, 0x40, 0x00]) [(.sp, 0x00FB), (.cs, 0x0040), (.flags, 0x0000), (.ip, 0x0000)] [(0x003FB, 0x05), (0x003FC, 0x00), (0x003FD, 0x10), (0x003FE, 0x00)] []
    .continues = true := by decide

/-- C28: RETF 0002h. -/
theorem test_vector_C28 : endsAs (start [(0x003F9, 0x05), (0x003FA, 0x00), (0x003FB, 0x40), (0x003FC, 0x00), (0x003FD, 0xEE), (0x003FE, 0xEE)] [(.sp, 0x00F9)] [0xCA, 0x02, 0x00]) [(.sp, 0x00FF), (.cs, 0x0040), (.flags, 0x0000), (.ip, 0x0005)] [] []
    .continues = true := by decide

/-- C31: LOOP 0012h. -/
theorem test_vector_C31 : endsAs (start [] [(.cx, 0x0000)] [0xE2, 0x10]) [(.cx, 0xFFFF), (.flags, 0x0000), (.ip, 0x0012)] [] []
    .continues = true := by decide

/-- C34: LOOPE 0012h. -/
theorem test_vector_C34 : endsAs (start [] [(.cx, 0x0003), (.flags, 0x0040)] [0xE1, 0x10]) [(.cx, 0x0002), (.flags, 0x0040), (.ip, 0x0012)] [] []
    .continues = true := by decide

/-- C37: LOOPNE 0012h. -/
theorem test_vector_C37 : endsAs (start [] [(.cx, 0x0003), (.flags, 0x0040)] [0xE0, 0x10]) [(.cx, 0x0002), (.flags, 0x0040), (.ip, 0x0002)] [] []
    .continues = true := by decide

/-- C40: INT 21h. -/
theorem test_vector_C40 : endsAs (start [] [(.ax, 0x0200), (.dx, 0x0041)] [0xCD, 0x21]) [(.flags, 0x0000), (.ip, 0x0002)] [] [0x41]
    .continues = true := by decide

/-- C41: INT 21h. -/
theorem test_vector_C41 : endsAs (start [(0x00200, 0x2E), (0x00201, 0x2E), (0x00202, 0x48), (0x00203, 0x69), (0x00204, 0x24)] [(.ax, 0x0900), (.dx, 0x0002)] [0xCD, 0x21]) [(.flags, 0x0000), (.ip, 0x0002)] [] [0x48, 0x69]
    .continues = true := by decide

/-- C42: INT 21h. -/
theorem test_vector_C42 : endsAs (start [] [(.ax, 0x4C07)] [0xCD, 0x21]) [(.flags, 0x0000), (.ip, 0x0002)] [] []
    .halted = true := by decide

/-- C43: INT 21h. -/
theorem test_vector_C43 : endsAs (start [] [(.ax, 0x3000)] [0xCD, 0x21]) [(.flags, 0x0000), (.ip, 0x0002)] [] []
    (.fault (some (.unhandledInterrupt 0x21 0x30))) = true := by decide

/-- C45: INT 10h. -/
theorem test_vector_C45 : endsAs (start [] [(.ax, 0x0E41)] [0xCD, 0x10]) [(.flags, 0x0000), (.ip, 0x0002)] [] []
    (.fault (some (.unhandledInterrupt 0x10 0x0E))) = true := by decide

/-- C50: IRET. -/
theorem test_vector_C50 : endsAs (start [(0x003F9, 0x08), (0x003FA, 0x00), (0x003FB, 0x10), (0x003FC, 0x00), (0x003FD, 0xFF), (0x003FE, 0xFF)] [(.sp, 0x00F9)] [0xCF]) [(.sp, 0x00FF), (.flags, 0x0FD5), (.ip, 0x0008)] [] []
    .continues = true := by decide

/-- X2: MOVSB. -/
theorem test_vector_X2 : endsAs (start [(0x00205, 0x42)] [(.es, 0x0020), (.si, 0x0005), (.di, 0x0015), (.flags, 0x0400)] [0xA4]) [(.si, 0x0004), (.di, 0x0014), (.flags, 0x0400), (.ip, 0x0001)] [(0x00215, 0x42)] []
    .continues = true := by decide

/-- X4: MOVSW. -/
theorem test_vector_X4 : endsAs (start [(0x00200, 0x34), (0x00201, 0x12)] [(.es, 0x0020), (.si, 0x0000), (.di, 0x0010), (.flags, 0x0400)] [0xA5]) [(.si, 0xFFFE), (.di, 0x000E), (.flags, 0x0400), (.ip, 0x0001)] [(0x00210, 0x34), (0x00211, 0x12)] []
    .continues = true := by decide

/-- X7: STOSB. -/
theorem test_vector_X7 : endsAs (start [] [(.es, 0x0020), (.di, 0xFFFF), (.ax, 0x1277)] [0xAA]) [(.di, 0x0000), (.flags, 0x0000), (.ip, 0x0001)] [(0x101FF, 0x77)] []
    .continues = true := by decide

/-- X6: STOSW. -/
theorem test_vector_X6 : endsAs (start [] [(.es, 0x0020), (.di, 0x0004), (.ax, 0xBEEF)] [0xAB]) [(.di, 0x0006), (.flags, 0x0000), (.ip, 0x0001)] [(0x00204, 0xEF), (0x00205, 0xBE)] []
    .continues = true := by decide

/-- X8: LODSB. -/
theorem test_vector_X8 : endsAs (start [(0x00202, 0x7A)] [(.si, 0x0002), (.ax, 0xFF00), (.flags, 0x0400)] [0xAC]) [(.ax, 0xFF7A), (.si, 0x0001), (.flags, 0x0400), (.ip, 0x0001)] [] []
    .continues = true := by decide

/-- X9: LODSW. -/
theorem test_vector_X9 : endsAs (start [(0x00202, 0x34), (0x00203, 0x12)] [(.si, 0x0002)] [0xAD]) [(.ax, 0x1234), (.si, 0x0004), (.flags, 0x0000), (.ip, 0x0001)] [] []
    .continues = true := by decide

/-- X12: REP MOVSB. -/
theorem test_vector_X12 : endsAs (start [(0x00200, 0x41), (0x00201, 0x42), (0x00202, 0x43)] [(.es, 0x0020), (.si, 0x0002), (.di, 0x0012), (.cx, 0x0003), (.flags, 0x0400)] [0xF3, 0xA4]) [(.cx, 0x0000), (.si, 0xFFFF), (.di, 0x000F), (.flags, 0x0400), (.ip, 0x0002)] [(0x00210, 0x41), (0x00211, 0x42), (0x00212, 0x43)] []
    .continues = true := by decide

/-- X20: CMPSB. -/
theorem test_vector_X20 : endsAs (start [(0x00200, 0x05), (0x00210, 0x07)] [(.es, 0x0020), (.si, 0x0000), (.di, 0x0010)] [0xA6]) [(.si, 0x0001), (.di, 0x0011), (.flags, 0x0091), (.ip, 0x0001)] [] []
    .continues = true := by decide

/-- X22: SCASB. -/
theorem test_vector_X22 : endsAs (start [(0x00200, 0x24)] [(.es, 0x0020), (.di, 0x0000), (.ax, 0x0024)] [0xAE]) [(.di, 0x0001), (.flags, 0x0044), (.ip, 0x0001)] [] []
    .continues = true := by decide

/-- X23: SCASW. -/
theorem test_vector_X23 : endsAs (start [(0x00200, 0x02), (0x00201, 0x00)] [(.es, 0x0020), (.di, 0x0000), (.ax, 0x0001)] [0xAF]) [(.di, 0x0002), (.flags, 0x0095), (.ip, 0x0001)] [] []
    .continues = true := by decide

/-- X25: REPE CMPSB. -/
theorem test_vector_X25 : endsAs (start [(0x00200, 0x41), (0x00201, 0x42), (0x00202, 0x43), (0x00210, 0x41), (0x00211, 0x42), (0x00212, 0x44)] [(.es, 0x0020), (.si, 0x0000), (.di, 0x0010), (.cx, 0x0005)] [0xF3, 0xA6]) [(.cx, 0x0002), (.si, 0x0003), (.di, 0x0013), (.flags, 0x0095), (.ip, 0x0002)] [] []
    .continues = true := by decide

/-- X27: REPNE SCASB. -/
theorem test_vector_X27 : endsAs (start [(0x00200, 0x48), (0x00201, 0x69), (0x00202, 0x24)] [(.es, 0x0020), (.di, 0x0000), (.cx, 0x0010), (.ax, 0x0024)] [0xF2, 0xAE]) [(.cx, 0x000D), (.di, 0x0003), (.flags, 0x0044), (.ip, 0x0002)] [] []
    .continues = true := by decide

/-- X30: REPNE CMPSW. -/
theorem test_vector_X30 : endsAs (start [(0x00200, 0x01), (0x00201, 0x00), (0x00202, 0x02), (0x00203, 0x00), (0x00204, 0x03), (0x00205, 0x00), (0x00210, 0x09), (0x00211, 0x00), (0x00212, 0x02), (0x00213, 0x00), (0x00214, 0x03), (0x00215, 0x00)] [(.es, 0x0020), (.si, 0x0000), (.di, 0x0010), (.cx, 0x0004)] [0xF2, 0xA7]) [(.cx, 0x0002), (.si, 0x0004), (.di, 0x0014), (.flags, 0x0044), (.ip, 0x0002)] [] []
    .continues = true := by decide

/-- X42: refused: InvalidOpcode. -/
theorem test_vector_X42 : endsAs (start [] [(.cx, 0x0003)] [0xF3, 0xF3, 0xA4]) [(.flags, 0x0000), (.ip, 0x0000)] [] []
    (.fault (some .invalidOpcode)) = true := by decide

/-- E5: refused: InvalidOpcode. -/
theorem test_vector_E5 : endsAs (start [] [] [0x82, 0xC0, 0x01]) [(.flags, 0x0000), (.ip, 0x0000)] [] []
    (.fault (some .invalidOpcode)) = true := by decide

/-- E30: refused: InvalidOpcode. -/
theorem test_vector_E30 : endsAs (start [] [] [0xFF, 0xD0]) [(.flags, 0x0000), (.ip, 0x0000)] [] []
    (.fault (some .invalidOpcode)) = true := by decide

/-- I1: MOV AX,1234h. -/
theorem test_vector_I1 : endsAs (start [] [(.ip, 0xFFFF)] [0xB8, 0x34, 0x12]) [(.ax, 0x1234), (.flags, 0x0000), (.ip, 0x0002)] [] []
    .continues = true := by decide

/-- C44: INT 21h with an AH that has no function, under `UNHANDLED_INT = noop`. -/
theorem test_vector_C44 :
    endsAs { start [] [(.ax, 0x3000)] [0xCD, 0x21] with params := { unhandledInt := .noop, intHandlers := [] } } [(.ip, 0x0002)] [] []
      .continues = true := by decide

/-- C46: the second byte of the string is refused by the host. -/
theorem test_vector_C46 :
    endsAs { start [(0x00200, 0x48), (0x00201, 0x69), (0x00202, 0x24)] [(.ax, 0x0900)] [0xCD, 0x21] with outAnswers := [.ok, .ioError] }
      [(.ip, 0x0002)] [] [0x48] (.fault (some .ioError)) = true := by decide

/-- Property of 70_reset_and_hazards.md R461: the first step after a bare reset adds AL to the byte at 0x00200. -/
theorem test_step_after_reset : ∃ t, step State.reset = .next t ∧ t.mem = [] ∧ t.reg .ip = 2 ∧
    t.trace = [.execute 0x00100, .read 0x00200 .byte, .write 0x00200 .byte 0] :=
  ⟨_, rfl, by decide, by decide, by decide⟩

/-! ## Witnesses: states and operands that meet the hypotheses of the obligations -/

/-- A state that meets the invariant and is not the reset state: a byte in memory, an instruction at CS:IP, a breakpoint elsewhere. -/
def sample : State :=
  { start [(0x00204, 0x5A)] [(.bx, 0x0004), (.flags, 0x0AD5)] [0x8A, 0x07] with breakpoints := [0x00200, 0x00300] }

theorem sample_inv : sample.Inv where
  memWf := by decide
  flagsReserved := by decide
  notRunning := by decide
  faultRecorded := by decide
  exitHalted := by decide
  latchPaused := by decide
  breakpointsRising := by decide

theorem witness_DecodeReadsBackEncode : WellFormed (.addRm16Imm16 (.mem (.disp16 .bp 0xFFFF)) 0x5678) := by decide

theorem witness_EncodeGivesDecodedBytes :
    decode [0x83, 0x06, 0x10, 0x00, 0x85, 0x90] = .ok (.addRm16Simm8 (.mem (.direct 0x0010)) 0x85, [0x90]) := rfl

theorem witness_RefusedFirstBytesAreTheTable :
    (0x0F : Byte) ∈ refusedFirstBytes ∧ (0xF5 : Byte) ∈ refusedFirstBytes ∧ (0x00 : Byte) ∉ refusedFirstBytes ∧
    (0xFF : Byte) ∉ refusedFirstBytes := by decide

theorem witness_RefusedExtensionsAreTheTable :
    (0x8E, [1, 4, 5, 6, 7]) ∈ refusedExtensions ∧ BitVec.extractLsb' 3 3 (0xC8 : Byte) ∈ [(1 : BitVec 3), 4, 5, 6, 7] ∧
    decode [0x8E, 0xC8] = .error (.refusedExtension 0x8E 1) := ⟨by decide, by decide, rfl⟩

theorem witness_RepeatPairsAreTheTable :
    (0x90 : Byte) ∉ [(0xA4 : Byte), 0xA5, 0xA6, 0xA7, 0xAA, 0xAB, 0xAC, 0xAD, 0xAE, 0xAF] ∧
    (0xA4 : Byte) ∉ [(0xA6 : Byte), 0xA7, 0xAE, 0xAF] := by decide

theorem witness_StepKeepsInvariant : ∃ s t : State, s.Inv ∧ step s = .next t ∧ t.reg .ax = 0x5A := ⟨sample, _, sample_inv, rfl, by decide⟩

theorem witness_HostCallsKeepInvariant : ∃ s : State, s.Inv ∧ s.breakpoints ≠ [] := ⟨sample, sample_inv, by decide⟩

theorem witness_WordReadsBackAfterWrite : ∃ a b : PAddr, b ≠ a ∧ b ≠ a + 1 ∧ a + 1 = 0 := ⟨0xFFFFF, 1, by decide, by decide, by decide⟩

theorem witness_AddressesFollowTable : ((5 : BitVec 3) ≠ 6 ∧ (7 : BitVec 3) ≠ 6) ∧ ∃ rm : BitVec 3, rm = 6 := ⟨by decide, 6, rfl⟩

theorem witness_StepRunsDecodedInstruction :
    sample.canStep ∧ sample.breakpointApplies = false ∧
    decode sample.fetchWindow = .ok (.movR8Rm8 .al (.mem (.noDisp .bx)), [0, 0, 0, 0]) := ⟨by decide, by decide, rfl⟩

/-- The instruction wraps from offset 0xFFFF to 0 of the same segment. -/
theorem witness_StepRunsInstructionAtCsIp : ∃ (s : State) (i : Instr), WellFormed i ∧ s.canStep ∧ s.breakpointApplies = false ∧
    ∀ k, ∀ b, (encode i)[k]? = some b → s.byteAt (phys (s.reg .cs) (s.reg .ip + BitVec.ofNat 16 k)) = b := by
  refine ⟨start [] [(.ip, 0xFFFF)] [0xB8, 0x34, 0x12], .movR16Imm16 .ax 0x1234, by decide, by decide, by decide, ?_⟩
  intro k b h
  match k with
  | 0 => exact Option.some.inj (Eq.trans (by decide) h)
  | 1 => exact Option.some.inj (Eq.trans (by decide) h)
  | 2 => exact Option.some.inj (Eq.trans (by decide) h)
  | k + 3 =>
    have hn : (encode (.movR16Imm16 .ax 0x1234))[k + 3]? = none := rfl
    rw [hn] at h; cases h

theorem witness_RefusedEncodingFaults : ∃ (s : State) (e : DecodeError), s.canStep ∧ s.breakpointApplies = false ∧
    decode s.fetchWindow = .error e := ⟨start [] [] [0xF3, 0x90], _, by decide, by decide, rfl⟩

/-- A breakpoint at the instruction, with the latch empty, and with the latch at another address. -/
theorem witness_BreakpointStopsOnce :
    (∃ s : State, s.canStep ∧ s.fetchAddr ∈ s.breakpoints ∧ s.bpResume ≠ some s.fetchAddr) ∧
    ∃ s : State, s.canStep ∧ s.fetchAddr ∈ s.breakpoints ∧ s.bpResume = some 0x00101 :=
  ⟨⟨{ start [] [] [0x90] with breakpoints := [0x00100] }, by decide, by decide, by decide⟩,
   ⟨{ start [] [] [0x90] with breakpoints := [0x00100], bpResume := some 0x00101, runState := .paused }, by decide, by decide, rfl⟩⟩

theorem witness_HaltedAndFaultedStay : (∃ s : State, s.runState = .halted) ∧ ∃ s : State, s.runState = .faulted ∧ s.faultRecord.isSome :=
  ⟨⟨{ sample with runState := .halted }, rfl⟩, ⟨sample.raise .ioError, rfl, rfl⟩⟩

/-- A run whose budget is used up, and a step of each outcome. -/
theorem witness_RunsComposeAndCountRetired :
    (∃ t, run 2 (start [] [] [0x90, 0x40]) = .next { state := t, outcome := .outOfBudget, retired := 2 }) ∧
    (∃ s t : State, s.canStep ∧ step s = .next t ∧ t.stepReturn = .continues) ∧
    (∃ s t : State, s.canStep ∧ step s = .next t ∧ t.stepReturn = .halted) ∧
    (∃ s t : State, s.canStep ∧ step s = .next t ∧ t.stepReturn = .breakpointHit) ∧
    (∃ s t : State, s.canStep ∧ step s = .next t ∧ t.stepReturn = .fault (some .invalidOpcode)) :=
  ⟨⟨_, rfl⟩, ⟨start [] [] [0x90], _, by decide, rfl, by decide⟩, ⟨start [] [] [0xF4], _, by decide, rfl, by decide⟩,
   ⟨{ State.reset with breakpoints := [0x00100] }, _, by decide, rfl, by decide⟩,
   ⟨start [] [] [0x0F], _, by decide, rfl, by decide⟩⟩

/-- Operands that meet the hypotheses, and a callee that changed AX and kept SP, SS and the frame. -/
theorem witness_StackIsBalanced :
    (Reg16.bp ≠ .sp ∧ (RegMem.reg Reg16.bp : Rm16) ≠ .reg .sp) ∧
    (∃ t v : State, exec (.callRel16 3) sample = .next t ∧ v.reg .ax ≠ t.reg .ax ∧ v.reg .sp = t.reg .sp ∧ v.reg .ss = t.reg .ss ∧
      v.wordAt (phys (t.reg .ss) (t.reg .sp)) = t.wordAt (phys (t.reg .ss) (t.reg .sp))) ∧
    (∃ t v : State, exec (.callFar 0 0x40) sample = .next t ∧ v.reg .ax ≠ t.reg .ax ∧ v.reg .sp = t.reg .sp ∧ v.reg .ss = t.reg .ss ∧
      v.wordAt (phys (t.reg .ss) (t.reg .sp)) = t.wordAt (phys (t.reg .ss) (t.reg .sp)) ∧
      v.wordAt (phys (t.reg .ss) (t.reg .sp + 2)) = t.wordAt (phys (t.reg .ss) (t.reg .sp + 2))) := by
  refine ⟨by decide, ⟨_, State.setReg _ .ax 7, rfl, ?_, rfl, rfl, rfl⟩, ⟨_, State.setReg _ .ax 7, rfl, ?_, rfl, rfl, rfl, rfl⟩⟩ <;> decide

theorem witness_OverflowFlagsTellTheRange : 0 < 1 ∧ 0 < 8 ∧ 0 < 16 := by decide

/-- The counts at which the clauses of the shifts part: 1, and others than 0 and 1 up to 255. -/
theorem witness_shifts :
    ((State.reset.setReg .cx 1).reg8 .cl).toNat = 1 ∧ ((State.reset.setReg .cx 2).reg8 .cl).toNat ≠ 0 ∧
    ((State.reset.setReg .cx 0x00FF).reg8 .cl).toNat = 255 ∧ ((State.reset.setReg .cx 0xFF00).reg8 .cl).toNat = 0 := by decide

/-- Quotients 0xFF and 0x100, and a divisor 0; the same one width up. -/
theorem witness_DivDividesOrFaults :
    (∃ s : State, (s.valueOf (s.place8 (.reg .bl))).toNat ≠ 0 ∧ (s.reg .ax).toNat / (s.valueOf (s.place8 (.reg .bl))).toNat = 0xFF) ∧
    (∃ s : State, (s.reg .ax).toNat / (s.valueOf (s.place8 (.reg .bl))).toNat = 0x100) ∧
    (∃ s : State, (s.valueOf (s.place8 (.reg .bl))).toNat = 0) ∧
    (∃ s : State, (s.valueOf (s.place16 (.reg .bx))).toNat ≠ 0 ∧
      ((s.reg .dx).toNat * 65536 + (s.reg .ax).toNat) / (s.valueOf (s.place16 (.reg .bx))).toNat = 0xFFFF) ∧
    (∃ s : State, ((s.reg .dx).toNat * 65536 + (s.reg .ax).toNat) / (s.valueOf (s.place16 (.reg .bx))).toNat = 0x10000) ∧
    (∃ s : State, (s.valueOf (s.place16 (.reg .bx))).toNat = 0) :=
  ⟨⟨start [] [(.ax, 0x00FF), (.bx, 1)] [], by decide⟩, ⟨start [] [(.ax, 0x0100), (.bx, 1)] [], by decide⟩, ⟨State.reset, by decide⟩,
   ⟨start [] [(.ax, 0xFFFF), (.bx, 1)] [], by decide⟩, ⟨start [] [(.dx, 1), (.bx, 1)] [], by decide⟩, ⟨State.reset, by decide⟩⟩

/-- Quotients 127, -127, 128 and -128, and a divisor 0; the same one width up. -/
theorem witness_IdivDividesOrFaults :
    (∃ s : State, (s.valueOf (s.place8 (.reg .bl))).toInt ≠ 0 ∧ (s.reg .ax).toInt.tdiv (s.valueOf (s.place8 (.reg .bl))).toInt = 127) ∧
    (∃ s : State, (s.valueOf (s.place8 (.reg .bl))).toInt ≠ 0 ∧ (s.reg .ax).toInt.tdiv (s.valueOf (s.place8 (.reg .bl))).toInt = -127) ∧
    (∃ s : State, (s.reg .ax).toInt.tdiv (s.valueOf (s.place8 (.reg .bl))).toInt = 128) ∧
    (∃ s : State, (s.reg .ax).toInt.tdiv (s.valueOf (s.place8 (.reg .bl))).toInt = -128) ∧
    (∃ s : State, (s.valueOf (s.place8 (.reg .bl))).toInt = 0) ∧
    (∃ s : State, (s.valueOf (s.place16 (.reg .bx))).toInt ≠ 0 ∧
      ((s.reg .dx).toInt * 65536 + (s.reg .ax).toNat).tdiv (s.valueOf (s.place16 (.reg .bx))).toInt = -32767) ∧
    (∃ s : State, ((s.reg .dx).toInt * 65536 + (s.reg .ax).toNat).tdiv (s.valueOf (s.place16 (.reg .bx))).toInt = -32768) ∧
    (∃ s : State, ((s.reg .dx).toInt * 65536 + (s.reg .ax).toNat).tdiv (s.valueOf (s.place16 (.reg .bx))).toInt = 32768) ∧
    (∃ s : State, (s.valueOf (s.place16 (.reg .bx))).toInt = 0) :=
  ⟨⟨start [] [(.ax, 0x007F), (.bx, 1)] [], by decide⟩, ⟨start [] [(.ax, 0xFF81), (.bx, 1)] [], by decide⟩,
   ⟨start [] [(.ax, 0x0080), (.bx, 1)] [], by decide⟩, ⟨start [] [(.ax, 0xFF80), (.bx, 1)] [], by decide⟩, ⟨State.reset, by decide⟩,
   ⟨start [] [(.dx, 0xFFFF), (.ax, 0x8001), (.bx, 1)] [], by decide⟩, ⟨start [] [(.dx, 0xFFFF), (.ax, 0x8000), (.bx, 1)] [], by decide⟩,
   ⟨start [] [(.ax, 0x8000), (.bx, 1)] [], by decide⟩, ⟨State.reset, by decide⟩⟩

/-- Three elements with no byte in common, and the last of them. -/
theorem witness_RepMovesExactlyCxElements : ∃ (s : State) (count : Nat), (s.reg .cx).toNat = count ∧ 0 < count ∧
    (∀ j k, j < count → k < count → elementAddr s .es (s.reg .di) j ≠ elementAddr s .ds (s.reg .si) k) ∧ ∃ k, k + 1 = count :=
  ⟨start [] [(.cx, 3), (.es, 0x0020), (.di, 0x0010)] [], 3, by decide, by decide,
   fun j k hj hk => (by decide : ∀ j < 3, ∀ k < 3,
     elementAddr (start [] [(.cx, 3), (.es, 0x0020), (.di, 0x0010)] []) .es 0x0010 j ≠
       elementAddr (start [] [(.cx, 3), (.es, 0x0020), (.di, 0x0010)] []) .ds 0 k) j hj k hk, 2, rfl⟩

theorem witness_Int21CharacterAndExit :
    (∃ s : State, s.reg8 .ah = 0x02 ∧ s.outAnswers.head? ≠ some .ioError) ∧
    (∃ s : State, s.reg8 .ah = 0x02 ∧ s.outAnswers.head? = some .ioError) ∧ (∃ s : State, s.reg8 .ah = 0x4C) :=
  ⟨⟨start [] [(.ax, 0x0200)] [], by decide, by decide⟩, ⟨{ start [] [(.ax, 0x0200)] [] with outAnswers := [.ioError] }, by decide, by decide⟩,
   ⟨start [] [(.ax, 0x4C07)] [], by decide⟩⟩

/-- The string `Hi$`: ended by its third byte, and refused at its second. -/
def hi : State := start [(0x00200, 0x48), (0x00201, 0x69), (0x00202, 0x24)] [(.ax, 0x0900)] []

theorem witness_Int21SendsString :
    (hi.reg8 .ah = 0x09 ∧ (∀ k, k < 2 → hi.byteAt (phys (hi.reg .ds) (hi.reg .dx + BitVec.ofNat 16 k)) ≠ 0x24) ∧
      (∀ k : Nat, k < 2 → hi.outAnswers[k]? ≠ some .ioError) ∧ hi.byteAt (phys (hi.reg .ds) (hi.reg .dx + BitVec.ofNat 16 2)) = 0x24) ∧
    ∃ s : State, s.reg8 .ah = 0x09 ∧ (∀ k, k < 1 → s.byteAt (phys (s.reg .ds) (s.reg .dx + BitVec.ofNat 16 k)) ≠ 0x24) ∧
      (∀ k : Nat, k < 1 → s.outAnswers[k]? ≠ some .ioError) ∧ s.byteAt (phys (s.reg .ds) (s.reg .dx + BitVec.ofNat 16 1)) ≠ 0x24 ∧
      s.outAnswers[1]? = some .ioError :=
  ⟨by decide, { hi with outAnswers := [.ok, .ioError] }, by decide, by decide, by decide, by decide, by decide⟩

theorem witness_StringWithoutEndIsStuck : hi.reg8 .ah = 0x09 ∧ (start [] [(.ax, 0x0900)] []).reg8 .ah = 0x09 := by decide

/-- A number without a handler, function 30h of INT 21h, each parameter, and a number with a handler whose effect is not given. -/
theorem witness_OtherInterruptsFollowParameter :
    (∃ (s : State) (n : Byte), (n ≠ 0x21 ∧ n ∉ s.params.intHandlers) ∧ s.params.unhandledInt = .fault) ∧
    (∃ s : State, s.reg8 .ah ∉ [0x02, 0x09, 0x4C] ∧ s.params.unhandledInt = .noop) ∧
    (∃ (s : State) (n : Byte), n ≠ 0x21 ∧ n ∈ s.params.intHandlers ∧ s.handlerEffects = []) :=
  ⟨⟨State.reset, 0x10, by decide, rfl⟩,
   ⟨{ start [] [(.ax, 0x3000)] [] with params := { unhandledInt := .noop, intHandlers := [] } }, by decide, rfl⟩,
   ⟨{ State.reset with params := { unhandledInt := .fault, intHandlers := [0x10] } }, 0x10, by decide, by decide, rfl⟩⟩

/-- `sample` with a handler for INT 10h whose next call has the effect `e`. -/
def handled (e : HandlerEffect) : State :=
  { sample with params := { unhandledInt := .fault, intHandlers := [0x10] }, handlerEffects := [e, { actions := [], halts := false }] }

/-- Effects given: none at all, one with an action of each kind, one that halts. The actions are seen in the state after them. -/
theorem witness_OtherInterruptsFollowParameter_given :
    (∀ e : HandlerEffect, (0x10 : Byte) ≠ 0x21 ∧ (0x10 : Byte) ∈ (handled e).params.intHandlers ∧
      (handled e).handlerEffects = { actions := e.actions, halts := e.halts } :: [{ actions := [], halts := false }]) ∧
    (∃ t, exec (.intImm8 0x10) (handled { actions := [], halts := false }) = .next t ∧ t.regs = sample.regs ∧ t.runState = .idle) ∧
    (∃ t, exec (.intImm8 0x10) (handled { actions := [.writeReg .flags 0xFFFF, .readMem 0x00204 .byte, .writeByte 0x00300 0x41,
        .writeWord 0xFFFFF 0xBBAA, .writeReg .ax 0x1234], halts := false }) = .next t ∧
      t.reg .flags = 0x0FD5 ∧ t.reg .ax = 0x1234 ∧ t.byteAt 0x00300 = 0x41 ∧ t.byteAt 0xFFFFF = 0xAA ∧ t.byteAt 0x00000 = 0xBB ∧
      t.handlerEffects.length = 1 ∧ t.runState = .idle ∧
      t.trace = [.read 0x00204 .byte, .write 0x00300 .byte 0x41, .write 0xFFFFF .word 0xBBAA]) ∧
    (∃ t, exec (.intImm8 0x10) (handled { actions := [.writeReg .ax 7], halts := true }) = .next t ∧ t.reg .ax = 7 ∧ t.runState = .halted) :=
  ⟨fun _ => ⟨by decide, List.mem_singleton.mpr rfl, rfl⟩, ⟨_, rfl, by decide⟩, ⟨_, rfl, by decide⟩, ⟨_, rfl, by decide⟩⟩

theorem witness_OnlyTableInstructionsWriteFlags : ∃ (i : Instr) (s t : State), writesFlags i = false ∧ NoHostHandler i s ∧ exec i s = .next t :=
  ⟨.rep .movsb, start [] [(.cx, 2)] [], _, rfl, (fun _ h => by cases h), rfl⟩

theorem witness_OnlyNamedInstructionsWriteSegments : ∃ (i : Instr) (s t : State),
    (∀ r ∈ [RegId.cs, .ds, .es, .ss], writesSegment r i = false) ∧ NoHostHandler i s ∧ exec i s = .next t :=
  ⟨.intImm8 0x10, State.reset, _, by decide, (fun n h => by cases h; exact .inr (by decide)), rfl⟩

/-- A division by 0 faults; INT faults, stops for want of a handler's effect, and can meet the dead end. -/
theorem witness_OnlyDivideAndIntStop :
    (∃ (s t : State), s.runState = .running ∧ exec (.divRm8 (.reg .bl)) s = .next t ∧ t.runState = .faulted) ∧
    (∃ (s t : State), s.runState = .running ∧ exec (.intImm8 0x10) s = .next t ∧ t.runState = .faulted) ∧
    (∃ s : State, s.runState = .running ∧ exec (.intImm8 0x10) s = .refused (.handlerEffectNotGiven 0x10)) :=
  ⟨⟨{ sample with runState := .running, regs := { sample.regs with bx := 0 } }, _, rfl, rfl, by decide⟩, ⟨{ sample with runState := .running }, _, rfl, rfl, by decide⟩,
   ⟨{ sample with runState := .running, params := { unhandledInt := .fault, intHandlers := [0x10] } }, rfl, rfl⟩⟩

theorem witness_TrapAndInterruptFlagsAreInert : ∃ s t : State, AgreeButTrapAndInterrupt s t ∧ s ≠ t :=
  ⟨sample, { sample with regs := { sample.regs with flags := 0x09D5 } }, ⟨rfl, by decide⟩, by decide⟩

theorem witness_TraceIsInert : ∃ s t : State, AgreeButTrace s t ∧ s ≠ t :=
  ⟨sample, sample.emit (.execute 0), rfl, by decide⟩

end Sys2Proof.Machine
end

/-! SUPPORT. States that differ only in what no instruction looks at: the trace (10_state.md R39), or TF and IF (10_state.md R30). Every operation of the model carries such a pair of states to such a pair. -/

namespace Sys2Proof.Machine

/-! ## The relation -/

/-- What two states may differ in: the trace, or FLAGS bits 8 and 9. -/
inductive Hidden where
  | trace | trapAndInterrupt

/-- The bits of FLAGS that must agree. -/
def Hidden.bits : Hidden → Word
  | .trace => BitVec.allOnes 16
  | .trapAndInterrupt => ~~~0x0300

/-- A flag some instruction reads: any but TF and IF. -/
def Flag.isRead : Flag → Bool
  | .tf | .intf => false
  | .cf | .pf | .af | .zf | .sf | .df | .of => true

theorem Hidden.getLsbD_bits (k : Hidden) {g : Flag} (hg : g.isRead = true) : k.bits.getLsbD g.bit = true := by
  revert hg
  cases k <;> cases g <;> decide

/-- The states differ at most in what `k` hides. -/
structure Alike (k : Hidden) (s t : State) : Prop where
  reg : ∀ r, r ≠ .flags → t.reg r = s.reg r
  flags : t.reg .flags &&& k.bits = s.reg .flags &&& k.bits
  mem : t.mem = s.mem
  host : SameHost s t
  trace : k = .trapAndInterrupt → t.trace = s.trace

/-- A register file is its thirteen registers beside FLAGS, and FLAGS. -/
theorem RegFile.eq_of_get {f g : RegFile} (h : ∀ r, r ≠ .flags → g.get r = f.get r) :
    g = { f with flags := g.flags } := by
  have e : ∀ x : RegFile, x = ⟨x.get .ax, x.get .bx, x.get .cx, x.get .dx, x.get .sp, x.get .bp, x.get .si, x.get .di,
    x.get .cs, x.get .ds, x.get .es, x.get .ss, x.get .ip, x.flags⟩ := fun _ => rfl
  rw [e g, h .ax nofun, h .bx nofun, h .cx nofun, h .dx nofun, h .sp nofun, h .bp nofun, h .si nofun, h .di nofun,
    h .cs nofun, h .ds nofun, h .es nofun, h .ss nofun, h .ip nofun]
  rfl

/-- Alike states are the same but for FLAGS and the trace. -/
theorem Alike.eq {k : Hidden} {s t : State} (h : Alike k s t) :
    t = { s with regs := { s.regs with flags := t.regs.flags }, trace := t.trace } := by
  have e : ∀ x : State, x = ⟨x.regs, x.mem, x.runState, x.breakpoints, x.bpResume, x.faultRecord, x.hostOut, x.exitCode,
    x.trace, x.params, x.outAnswers, x.handlerEffects⟩ := fun _ => rfl
  rw [← RegFile.eq_of_get h.reg, e t, h.mem, h.host.runState, h.host.breakpoints, h.host.bpResume, h.host.faultRecord,
    h.host.hostOut, h.host.exitCode, h.host.params, h.host.outAnswers, h.host.handlerEffects]

theorem agreeButTrace_iff {s t : State} : AgreeButTrace s t ↔ Alike .trace s t := by
  constructor
  · intro h
    rw [h]
    exact ⟨fun _ _ => rfl, rfl, rfl, ⟨rfl, rfl, rfl, rfl, rfl, rfl, rfl, rfl, rfl⟩, nofun⟩
  · intro h
    have hf : t.regs.flags = s.regs.flags := (BitVec.and_allOnes.symm.trans h.flags).trans BitVec.and_allOnes
    have ht := h.eq
    rw [hf] at ht
    exact ht

theorem agreeButTrapAndInterrupt_iff {s t : State} :
    AgreeButTrapAndInterrupt s t ↔ Alike .trapAndInterrupt s t := by
  constructor
  · rintro ⟨h, hf⟩
    refine ⟨?_, hf, ?_, ?_, ?_⟩ <;> rw [h]
    · intro r hr; cases r <;> first | rfl | contradiction
    · exact ⟨rfl, rfl, rfl, rfl, rfl, rfl, rfl, rfl, rfl⟩
    · intro _; rfl
  · intro h
    have ht := h.eq
    rw [h.trace rfl] at ht
    exact ⟨ht, h.flags⟩

section Congruence

variable {k : Hidden} {s t : State}

theorem Alike.ite {c : Prop} [Decidable c] {s' t' : State} (h : Alike k s t) (h' : Alike k s' t') :
    Alike k (if c then s else s') (if c then t else t') := by
  split
  · exact h
  · exact h'

/-- The two outcomes are of one kind and, if next states, alike. -/
abbrev AlikeOutcomes (k : Hidden) := OutcomesRelated (Alike k)

theorem AlikeOutcomes.ite {c : Prop} [Decidable c] {a b a' b' : Host.Outcome State Fault Refusal}
    (h : AlikeOutcomes k a b) (h' : AlikeOutcomes k a' b') :
    AlikeOutcomes k (if c then a else a') (if c then b else b') := by
  split
  · exact h
  · exact h'

/-! ## What is read is the same -/

theorem Alike.flag (h : Alike k s t) (g : Flag) (hg : g.isRead = true) : t.flag g = s.flag g := by
  have e := congrArg (·.getLsbD g.bit) h.flags
  simpa only [State.flag, BitVec.getLsbD_and, k.getLsbD_bits hg, Bool.and_true] using e

theorem Alike.reg8 (h : Alike k s t) (r : Reg8) : t.reg8 r = s.reg8 r := by
  simp only [State.reg8, h.reg _ (Reg8.parent_ne_flags r)]

theorem Alike.byteAt (h : Alike k s t) (a : PAddr) : t.byteAt a = s.byteAt a := by
  simp only [State.byteAt, h.mem]

theorem Alike.wordAt (h : Alike k s t) (a : PAddr) : t.wordAt a = s.wordAt a := State.wordAt_congr h.byteAt a

theorem Alike.baseIndex (h : Alike k s t) (b : BaseIndex) : t.baseIndex b = s.baseIndex b := by
  cases b <;> simp [State.baseIndex, h.reg]

theorem Alike.effAddr (h : Alike k s t) (m : MemOperand) : t.effAddr m = s.effAddr m := by
  cases m <;> simp only [State.effAddr, h.baseIndex]

theorem MemOperand.segment_ne_flags (m : MemOperand) : MemOperand.segment m ≠ .flags := by
  cases m with
  | direct d => nofun
  | noDisp b | disp8 b d | disp16 b d => cases b <;> nofun

theorem Alike.operandAddr (h : Alike k s t) (m : MemOperand) : t.operandAddr m = s.operandAddr m := by
  rw [State.operandAddr, State.operandAddr, h.effAddr, h.reg _ (MemOperand.segment_ne_flags m)]

theorem Alike.valueOf (h : Alike k s t) {n : Nat} {p : Place n} (hp : p.plain) : t.valueOf p = s.valueOf p := by
  cases p with
  | reg8 r => exact h.reg8 r
  | reg r => exact h.reg r hp
  | byteAt a => exact h.byteAt a
  | wordAt a => exact h.wordAt a

theorem Alike.stackTop (h : Alike k s t) : t.stackTop = s.stackTop := by
  simp [State.stackTop, h.reg]

theorem Alike.popValue (h : Alike k s t) : t.popValue = s.popValue := by
  rw [State.popValue, State.popValue, h.stackTop, h.wordAt]

theorem Alike.cond (h : Alike k s t) (c : Cond) : t.cond c = s.cond c := by
  cases c <;>
    simp only [State.cond, h.flag .cf rfl, h.flag .pf rfl, h.flag .zf rfl, h.flag .sf rfl, h.flag .of rfl]

/-! ## One basic write -/

theorem Alike.setFlags (h : Alike k s t) {v w : Word} (e : w &&& k.bits = v &&& k.bits) :
    Alike k (s.setReg .flags v) (t.setReg .flags w) where
  reg r hr := by simp [hr, h.reg r hr]
  flags := by
    simp only [State.reg_setReg, if_true, storedWord_flags]
    rw [BitVec.and_assoc, BitVec.and_comm Config.flagsMask, ← BitVec.and_assoc, e, BitVec.and_assoc,
      BitVec.and_comm k.bits, ← BitVec.and_assoc]
  mem := h.mem
  host := { h.host with }
  trace := h.trace

theorem Alike.setReg (h : Alike k s t) (r : RegId) (v : Word) : Alike k (s.setReg r v) (t.setReg r v) := by
  by_cases hr : r = .flags
  · subst hr; exact h.setFlags rfl
  · refine { h with reg := fun q hq => ?_, flags := ?_, host := { h.host with } }
    · simp only [State.reg_setReg, h.reg q hq]
    · simpa only [State.reg_setReg, if_neg (Ne.symm hr)] using h.flags

theorem Alike.setFlag (h : Alike k s t) (g : Flag) (b : Bool) : Alike k (s.setFlag g b) (t.setFlag g b) := by
  have he := h.flags
  refine h.setFlags ?_
  cases b
  · simp only [Bool.false_eq_true, if_false, BitVec.and_assoc, BitVec.and_comm (~~~g.mask)]
    rw [← BitVec.and_assoc, he, BitVec.and_assoc]
  · simp only [if_true]
    apply BitVec.eq_of_getLsbD_eq
    intro i hi
    have hb := congrArg (·.getLsbD i) he
    simp only [BitVec.getLsbD_and, BitVec.getLsbD_or] at hb ⊢
    rw [Bool.and_or_distrib_right, hb, ← Bool.and_or_distrib_right]

theorem Alike.putByte (h : Alike k s t) (a : PAddr) (v : Byte) : Alike k (s.putByte a v) (t.putByte a v) :=
  { h with mem := congrArg (·.write a.toNat v) h.mem, host := { h.host with } }

theorem Alike.emit (h : Alike k s t) (e : Event) : Alike k (s.emit e) (t.emit e) :=
  { h with trace := fun hk => congrArg (· ++ [e]) (h.trace hk), host := { h.host with } }

theorem Alike.raise (h : Alike k s t) (f : FaultKind) : Alike k (s.raise f) (t.raise f) :=
  { h with host := { h.host with runState := rfl, faultRecord := rfl } }

theorem Alike.halt (h : Alike k s t) : Alike k s.halt t.halt :=
  { h with host := { h.host with runState := rfl } }

/-! ## Registers, memory and the stack -/

theorem Alike.setReg8 (h : Alike k s t) (r : Reg8) (v : Byte) : Alike k (s.setReg8 r v) (t.setReg8 r v) := by
  unfold State.setReg8
  rw [h.reg _ (Reg8.parent_ne_flags r)]
  exact h.setReg _ _

theorem Alike.storeByte (h : Alike k s t) (a : PAddr) (v : Byte) : Alike k (s.storeByte a v) (t.storeByte a v) :=
  (h.putByte a v).emit _

theorem Alike.storeWord (h : Alike k s t) (a : PAddr) (v : Word) : Alike k (s.storeWord a v) (t.storeWord a v) :=
  ((h.putByte a _).putByte (a + 1) _).emit _

theorem Alike.push16 (h : Alike k s t) (v : Word) : Alike k (s.push16 v) (t.push16 v) := by
  rw [State.push16_eq, State.push16_eq, h.reg .sp nofun, h.reg .ss nofun]
  exact (h.setReg _ _).storeWord _ _

theorem Alike.popped (h : Alike k s t) : Alike k s.popped t.popped := by
  unfold State.popped
  rw [h.stackTop, h.reg .sp nofun]
  exact (h.emit _).setReg _ _

theorem Alike.interruptReturn (h : Alike k s t) : Alike k s.interruptReturn t.interruptReturn := by
  unfold State.interruptReturn
  simp only [h.popValue, h.popped.popValue, h.popped.popped.popValue]
  exact ((h.popped.popped.popped.setReg _ _).setReg _ _).setReg _ _

theorem Alike.noteRead (h : Alike k s t) {n : Nat} (p : Place n) : Alike k (s.noteRead p) (t.noteRead p) := by
  cases p with
  | reg8 r | reg r => exact h
  | byteAt a | wordAt a => exact h.emit _

theorem Alike.writePlace (h : Alike k s t) {n : Nat} (p : Place n) (v : BitVec n) :
    Alike k (s.writePlace p v) (t.writePlace p v) := by
  cases p with
  | reg8 r => exact h.setReg8 r v
  | reg r => exact h.setReg r v
  | byteAt a => exact h.storeByte a v
  | wordAt a => exact h.storeWord a v

/-! ## Operands: the same in both states, and none of them FLAGS -/

/-- One place that is not FLAGS, named twice. -/
inductive Place.Same {n : Nat} (p : Place n) : Place n → Prop where
  | intro (hp : p.plain) : Place.Same p p

/-- One source operand that is not FLAGS, named twice. -/
inductive Source.Same {n : Nat} : Source n → Source n → Prop where
  | place {p q : Place n} (h : Place.Same p q) : Source.Same (.place p) (.place q)
  | imm (v : BitVec n) : Source.Same (.imm v) (.imm v)

theorem Place.Same.reg8 (r : Reg8) : Place.Same (.reg8 r) (.reg8 r) := .intro trivial
theorem Place.Same.reg16 (r : Reg16) : Place.Same (.reg (Reg16.id r)) (.reg (Reg16.id r)) := .intro (Reg16.id_ne_flags r)
theorem Place.Same.sreg (r : Sreg) : Place.Same (.reg (Sreg.id r)) (.reg (Sreg.id r)) := .intro (Sreg.id_ne_flags r)
theorem Place.Same.al : Place.Same placeAl placeAl := .intro placeAl_plain
theorem Place.Same.ax : Place.Same placeAx placeAx := .intro placeAx_plain

theorem Place.Same.byteAt {a b : PAddr} (e : b = a) : Place.Same (.byteAt a) (.byteAt b) := e ▸ .intro trivial
theorem Place.Same.wordAt {a b : PAddr} (e : b = a) : Place.Same (.wordAt a) (.wordAt b) := e ▸ .intro trivial

theorem Alike.place8 (h : Alike k s t) (o : Rm8) : Place.Same (s.place8 o) (t.place8 o) := by
  cases o with
  | reg r => exact .reg8 r
  | mem m => exact .byteAt (h.operandAddr m)

theorem Alike.place16 (h : Alike k s t) (o : Rm16) : Place.Same (s.place16 o) (t.place16 o) := by
  cases o with
  | reg r => exact .reg16 r
  | mem m => exact .wordAt (h.operandAddr m)

theorem Alike.moffs (h : Alike k s t) (off : Word) : t.moffsAddr off = s.moffsAddr off := by
  rw [State.moffsAddr, State.moffsAddr, h.reg .ds nofun]

theorem Alike.value (h : Alike k s t) {n : Nat} {x y : Source n} (hx : Source.Same x y) : y.value t = x.value s := by
  obtain ⟨⟨hp⟩⟩ | v := hx
  · exact h.valueOf hp
  · rfl

theorem Alike.note (h : Alike k s t) {n : Nat} {x y : Source n} (hx : Source.Same x y) : Alike k (x.note s) (y.note t) := by
  obtain ⟨⟨-⟩⟩ | v := hx
  · exact h.noteRead _
  · exact h

/-! ## The shared operations -/

theorem Alike.move (h : Alike k s t) {n : Nat} {p q : Place n} (hp : Place.Same p q) {x y : Source n}
    (hx : Source.Same x y) : Alike k (s.move p x) (t.move q y) := by
  obtain ⟨-⟩ := hp
  unfold State.move
  rw [h.value hx]
  exact (h.note hx).writePlace p _

theorem Alike.setStatusKeepCf (h : Alike k s t) (x : Status) : Alike k (s.setStatusKeepCf x) (t.setStatusKeepCf x) :=
  ((((h.setFlag .pf _).setFlag .af _).setFlag .zf _).setFlag .sf _).setFlag .of _

theorem Alike.setStatus (h : Alike k s t) (x : Status) : Alike k (s.setStatus x) (t.setStatus x) :=
  (h.setFlag .cf _).setStatusKeepCf x

theorem Alike.carry (h : Alike k s t) : t.flag .cf = s.flag .cf := h.flag _ rfl

theorem Alike.alu (h : Alike k s t) (op : AluOp) {n : Nat} {p q : Place n} (hp : Place.Same p q) {x y : Source n}
    (hx : Source.Same x y) : Alike k (s.alu op p x) (t.alu op q y) := by
  obtain ⟨hp⟩ := hp
  unfold State.alu
  simp only [h.valueOf hp, h.value hx, h.carry]
  have hn := (h.noteRead p).note hx
  exact (Alike.ite (hn.writePlace p _) hn).setStatus _

theorem Alike.test (h : Alike k s t) {n : Nat} {p q : Place n} (hp : Place.Same p q) {x y : Source n}
    (hx : Source.Same x y) : Alike k (s.test p x) (t.test q y) := by
  obtain ⟨hp⟩ := hp
  unfold State.test
  rw [h.valueOf hp, h.value hx]
  exact ((h.noteRead p).note hx).setStatus _

theorem Alike.inc (h : Alike k s t) {n : Nat} {p q : Place n} (hp : Place.Same p q) : Alike k (s.inc p) (t.inc q) := by
  obtain ⟨hp⟩ := hp
  unfold State.inc
  rw [h.valueOf hp]
  exact ((h.noteRead p).writePlace p _).setStatusKeepCf _

theorem Alike.dec (h : Alike k s t) {n : Nat} {p q : Place n} (hp : Place.Same p q) : Alike k (s.dec p) (t.dec q) := by
  obtain ⟨hp⟩ := hp
  unfold State.dec
  rw [h.valueOf hp]
  exact ((h.noteRead p).writePlace p _).setStatusKeepCf _

theorem Alike.neg (h : Alike k s t) {n : Nat} {p q : Place n} (hp : Place.Same p q) : Alike k (s.neg p) (t.neg q) := by
  obtain ⟨hp⟩ := hp
  unfold State.neg
  rw [h.valueOf hp]
  exact ((h.noteRead p).writePlace p _).setStatus _

theorem Alike.not (h : Alike k s t) {n : Nat} {p q : Place n} (hp : Place.Same p q) : Alike k (s.not p) (t.not q) := by
  obtain ⟨hp⟩ := hp
  unfold State.not
  rw [h.valueOf hp]
  exact (h.noteRead p).writePlace p _

theorem Alike.clCount (h : Alike k s t) : t.clCount = s.clCount := by
  rw [State.clCount, State.clCount, h.reg8]

theorem Alike.setZsp (h : Alike k s t) {n : Nat} (x : BitVec n) : Alike k (s.setZsp x) (t.setZsp x) :=
  ((h.setFlag .zf _).setFlag .sf _).setFlag .pf _

theorem Alike.shift (h : Alike k s t) (op : ShiftOp) {n : Nat} {p q : Place n} (hp : Place.Same p q) {c d : Nat}
    (hc : d = c) : Alike k (s.shift op p c) (t.shift op q d) := by
  obtain ⟨hp⟩ := hp
  subst hc
  rw [State.shift_eq, State.shift_eq]
  simp only [h.valueOf hp, h.carry]
  have hw := (h.noteRead p).writePlace p (shiftSteps op d (s.valueOf p) (s.flag .cf)).1
  have hcf := hw.setFlag .cf (shiftSteps op d (s.valueOf p) (s.flag .cf)).2
  have hzsp := Alike.ite (c := shiftSetsZsp op = true) (hcf.setZsp (shiftSteps op d (s.valueOf p) (s.flag .cf)).1) hcf
  exact .ite hw (.ite (hzsp.setFlag .of _) hzsp)

theorem Alike.pushPlace (h : Alike k s t) {p q : Place 16} (hp : Place.Same p q) :
    Alike k (s.pushPlace p) (t.pushPlace q) := by
  obtain ⟨hp⟩ := hp
  unfold State.pushPlace
  rw [h.valueOf hp]
  exact (h.noteRead p).push16 _

theorem Alike.popPlace (h : Alike k s t) {p q : Place 16} (hp : Place.Same p q) :
    Alike k (s.popPlace p) (t.popPlace q) := by
  obtain ⟨-⟩ := hp
  unfold State.popPlace
  rw [h.popValue]
  exact h.popped.writePlace p _

/-! ## Control transfer -/

theorem Alike.jumpRel (h : Alike k s t) (d : Word) : Alike k (s.jumpRel d) (t.jumpRel d) := by
  unfold State.jumpRel
  rw [h.reg .ip nofun]
  exact h.setReg _ _

theorem Alike.jumpFar (h : Alike k s t) (off seg : Word) : Alike k (s.jumpFar off seg) (t.jumpFar off seg) :=
  (h.setReg _ _).setReg _ _

theorem Alike.jumpIf (h : Alike k s t) (c : Cond) (d : Byte) : Alike k (s.jumpIf c d) (t.jumpIf c d) := by
  unfold State.jumpIf
  rw [h.cond]
  exact (h.jumpRel _).ite h

theorem Alike.loop (h : Alike k s t) {a b : Bool} (e : b = a) (d : Byte) : Alike k (s.loop a d) (t.loop b d) := by
  subst e
  unfold State.loop
  have hc := h.setReg .cx (s.reg .cx - 1)
  simp only [h.reg .cx nofun, hc.reg .cx nofun]
  exact (hc.jumpRel _).ite hc

theorem Alike.returnNear (h : Alike k s t) : Alike k s.returnNear t.returnNear := by
  unfold State.returnNear
  rw [h.popValue]
  exact h.popped.setReg _ _

theorem Alike.returnFar (h : Alike k s t) : Alike k s.returnFar t.returnFar := by
  unfold State.returnFar
  rw [h.popValue, h.popped.popValue]
  exact (h.popped.popped.setReg _ _).setReg _ _

theorem Alike.dropBytes (h : Alike k s t) (v : Word) : Alike k (s.dropBytes v) (t.dropBytes v) := by
  unfold State.dropBytes
  rw [h.reg .sp nofun]
  exact h.setReg _ _

theorem Alike.callNear (h : Alike k s t) (d : Word) :
    Alike k ((s.push16 (s.reg .ip)).jumpRel d) ((t.push16 (t.reg .ip)).jumpRel d) := by
  rw [h.reg .ip nofun]
  exact (h.push16 _).jumpRel d

theorem Alike.callFar (h : Alike k s t) (off seg : Word) :
    Alike k (((s.push16 (s.reg .cs)).push16 (s.reg .ip)).jumpFar off seg)
      (((t.push16 (t.reg .cs)).push16 (t.reg .ip)).jumpFar off seg) := by
  rw [h.reg .ip nofun, h.reg .cs nofun]
  exact ((h.push16 _).push16 _).jumpFar off seg

/-! ## Flag moves -/

theorem Alike.lahfByte (h : Alike k s t) : t.lahfByte = s.lahfByte := by
  simp only [State.lahfByte, h.flag .sf rfl, h.flag .zf rfl, h.flag .af rfl, h.flag .pf rfl, h.flag .cf rfl]

theorem Alike.lahf (h : Alike k s t) : Alike k (s.setReg8 .ah s.lahfByte) (t.setReg8 .ah t.lahfByte) :=
  h.lahfByte ▸ h.setReg8 _ _

theorem Alike.sahf (h : Alike k s t) : Alike k (s.loadFlagsByte (s.reg8 .ah)) (t.loadFlagsByte (t.reg8 .ah)) := by
  rw [h.reg8]
  exact ((((h.setFlag _ _).setFlag _ _).setFlag _ _).setFlag _ _).setFlag _ _

/-! ## Multiplication and conversion -/

theorem Alike.setCfOf (h : Alike k s t) (b : Bool) : Alike k (s.setCfOf b) (t.setCfOf b) :=
  (h.setFlag _ _).setFlag _ _

theorem Alike.setDxAx (h : Alike k s t) (v : BitVec 32) : Alike k (s.setDxAx v) (t.setDxAx v) :=
  (h.setReg _ _).setReg _ _

theorem Alike.dxAx (h : Alike k s t) : t.dxAx = s.dxAx := by
  rw [State.dxAx, State.dxAx, h.reg .dx nofun, h.reg .ax nofun]

theorem Alike.mul8 (h : Alike k s t) {p q : Place 8} (hp : Place.Same p q) : Alike k (s.mul8 p) (t.mul8 q) := by
  obtain ⟨hp⟩ := hp
  unfold State.mul8
  rw [h.reg8, h.valueOf hp]
  exact ((h.noteRead p).setReg _ _).setCfOf _

theorem Alike.imul8 (h : Alike k s t) {p q : Place 8} (hp : Place.Same p q) : Alike k (s.imul8 p) (t.imul8 q) := by
  obtain ⟨hp⟩ := hp
  unfold State.imul8
  rw [h.reg8, h.valueOf hp]
  exact ((h.noteRead p).setReg _ _).setCfOf _

theorem Alike.mul16 (h : Alike k s t) {p q : Place 16} (hp : Place.Same p q) : Alike k (s.mul16 p) (t.mul16 q) := by
  obtain ⟨hp⟩ := hp
  unfold State.mul16
  rw [h.reg .ax nofun, h.valueOf hp]
  exact ((h.noteRead p).setDxAx _).setCfOf _

theorem Alike.imul16 (h : Alike k s t) {p q : Place 16} (hp : Place.Same p q) : Alike k (s.imul16 p) (t.imul16 q) := by
  obtain ⟨hp⟩ := hp
  unfold State.imul16
  rw [h.reg .ax nofun, h.valueOf hp]
  exact ((h.noteRead p).setDxAx _).setCfOf _

theorem Alike.cbw (h : Alike k s t) :
    Alike k (s.setReg8 .ah (if (s.reg8 .al).msb then 0xFF else 0x00))
      (t.setReg8 .ah (if (t.reg8 .al).msb then 0xFF else 0x00)) := by
  rw [h.reg8]
  exact h.setReg8 _ _

theorem Alike.cwd (h : Alike k s t) :
    Alike k (s.setReg .dx (if (s.reg .ax).msb then 0xFFFF else 0x0000))
      (t.setReg .dx (if (t.reg .ax).msb then 0xFFFF else 0x0000)) := by
  rw [h.reg .ax nofun]
  exact h.setReg _ _

/-! ## Strings -/

theorem Alike.stringSrc (h : Alike k s t) : t.stringSrc = s.stringSrc := by
  rw [State.stringSrc, State.stringSrc, h.reg .ds nofun, h.reg .si nofun]

theorem Alike.stringDst (h : Alike k s t) : t.stringDst = s.stringDst := by
  rw [State.stringDst, State.stringDst, h.reg .es nofun, h.reg .di nofun]

theorem Alike.stringDelta (h : Alike k s t) (size : Word) : t.stringDelta size = s.stringDelta size := by
  rw [State.stringDelta, State.stringDelta, h.flag _ rfl]

theorem Alike.bumpSi (h : Alike k s t) {d e : Word} (he : e = d) : Alike k (s.bumpSi d) (t.bumpSi e) := by
  subst he
  unfold State.bumpSi
  rw [h.reg .si nofun]
  exact h.setReg _ _

theorem Alike.bumpDi (h : Alike k s t) {d e : Word} (he : e = d) : Alike k (s.bumpDi d) (t.bumpDi e) := by
  subst he
  unfold State.bumpDi
  rw [h.reg .di nofun]
  exact h.setReg _ _

theorem Alike.stringOnce (h : Alike k s t) (op : StringOp) : Alike k (s.stringOnce op) (t.stringOnce op) := by
  have src8 := Place.Same.byteAt h.stringSrc
  have src16 := Place.Same.wordAt h.stringSrc
  have dst8 := Place.Same.byteAt h.stringDst
  have dst16 := Place.Same.wordAt h.stringDst
  have d1 := h.stringDelta 1
  have d2 := h.stringDelta 2
  cases op with
  | movsb => exact ((h.move dst8 (.place src8)).bumpSi d1).bumpDi d1
  | movsw => exact ((h.move dst16 (.place src16)).bumpSi d2).bumpDi d2
  | cmpsb => exact ((h.alu .cmp src8 (.place dst8)).bumpSi d1).bumpDi d1
  | cmpsw => exact ((h.alu .cmp src16 (.place dst16)).bumpSi d2).bumpDi d2
  | stosb => exact (h.move dst8 (.place .al)).bumpDi d1
  | stosw => exact (h.move dst16 (.place .ax)).bumpDi d2
  | lodsb => exact (h.move .al (.place src8)).bumpSi d1
  | lodsw => exact (h.move .ax (.place src16)).bumpSi d2
  | scasb => exact (h.alu .cmp .al (.place dst8)).bumpDi d1
  | scasw => exact (h.alu .cmp .ax (.place dst16)).bumpDi d2

theorem Alike.repeatWhile {op : StringOp} {goesOn : State → Bool}
    (hg : ∀ {s t : State}, Alike k s t → goesOn t = goesOn s) (n : Nat) (h : Alike k s t) :
    Alike k (s.repeatWhile op goesOn n) (t.repeatWhile op goesOn n) := by
  induction n generalizing s t with
  | zero => exact h
  | succ n ih =>
    have h1 := h.stringOnce op
    have h2 := h1.setReg .cx ((s.stringOnce op).reg .cx - 1)
    simp only [State.repeatWhile, h.reg .cx nofun, h1.reg .cx nofun, hg h2]
    exact .ite h (.ite (ih h2) h2)

theorem Alike.repGoesOn (h : Alike k s t) (op : StringOp) : repGoesOn op t = repGoesOn op s := by
  cases op <;> simp only [Machine.repGoesOn, h.flag .zf rfl]

theorem Alike.repneGoesOn (h : Alike k s t) : repneGoesOn t = repneGoesOn s := by
  rw [Machine.repneGoesOn, Machine.repneGoesOn, h.flag _ rfl]

theorem Alike.rep (h : Alike k s t) (op : StringOp) :
    Alike k (s.repeatWhile op (Machine.repGoesOn op) (s.reg .cx).toNat)
      (t.repeatWhile op (Machine.repGoesOn op) (t.reg .cx).toNat) := by
  rw [h.reg .cx nofun]
  exact h.repeatWhile (fun h' => h'.repGoesOn op) _

theorem Alike.repne (h : Alike k s t) (op : StringOp) :
    Alike k (s.repeatWhile op Machine.repneGoesOn (s.reg .cx).toNat)
      (t.repeatWhile op Machine.repneGoesOn (t.reg .cx).toNat) := by
  rw [h.reg .cx nofun]
  exact h.repeatWhile (fun h' => h'.repneGoesOn) _

/-! ## Division -/

/-- The shape of every division: no divisor, a quotient that does not fit, or the results written. -/
theorem Alike.divisionIte (h : Alike k s t) {n : Nat} (p : Place n) {c d : Prop} [Decidable c] [Decidable d]
    {u v : State} (huv : Alike k u v) :
    AlikeOutcomes k
      (if c then .next ((s.noteRead p).raise .divideError)
        else if d then .next ((s.noteRead p).raise .divideError) else .next u)
      (if c then .next ((t.noteRead p).raise .divideError)
        else if d then .next ((t.noteRead p).raise .divideError) else .next v) :=
  have hf : AlikeOutcomes k (.next ((s.noteRead p).raise .divideError)) (.next ((t.noteRead p).raise .divideError)) :=
    (h.noteRead p).raise _
  .ite hf (.ite hf huv)

theorem Alike.div8 (h : Alike k s t) {p q : Place 8} (hp : Place.Same p q) :
    AlikeOutcomes k (s.div8 p) (t.div8 q) := by
  obtain ⟨hp⟩ := hp
  simp only [State.div8, h.reg .ax nofun, h.valueOf hp]
  exact h.divisionIte p (((h.noteRead p).setReg8 _ _).setReg8 _ _)

theorem Alike.div16 (h : Alike k s t) {p q : Place 16} (hp : Place.Same p q) :
    AlikeOutcomes k (s.div16 p) (t.div16 q) := by
  obtain ⟨hp⟩ := hp
  simp only [State.div16, h.dxAx, h.valueOf hp]
  exact h.divisionIte p (((h.noteRead p).setReg _ _).setReg _ _)

theorem Alike.idiv8 (h : Alike k s t) {p q : Place 8} (hp : Place.Same p q) :
    AlikeOutcomes k (s.idiv8 p) (t.idiv8 q) := by
  obtain ⟨hp⟩ := hp
  simp only [State.idiv8, h.reg .ax nofun, h.valueOf hp]
  exact h.divisionIte p (((h.noteRead p).setReg8 _ _).setReg8 _ _)

theorem Alike.idiv16 (h : Alike k s t) {p q : Place 16} (hp : Place.Same p q) :
    AlikeOutcomes k (s.idiv16 p) (t.idiv16 q) := by
  obtain ⟨hp⟩ := hp
  simp only [State.idiv16, h.dxAx, h.valueOf hp]
  exact h.divisionIte p (((h.noteRead p).setReg _ _).setReg _ _)

/-! ## INT -/

theorem Alike.hostSends (h : Alike k s t) (b : Byte) :
    Alike k { s with hostOut := s.hostOut ++ [b], outAnswers := s.outAnswers.tail }
      { t with hostOut := t.hostOut ++ [b], outAnswers := t.outAnswers.tail } :=
  { h with host := { h.host with
      hostOut := congrArg (· ++ [b]) h.host.hostOut, outAnswers := congrArg List.tail h.host.outAnswers } }

theorem Alike.hostRefuses (h : Alike k s t) :
    Alike k { s with outAnswers := s.outAnswers.tail } { t with outAnswers := t.outAnswers.tail } :=
  { h with host := { h.host with outAnswers := congrArg List.tail h.host.outAnswers } }

theorem Alike.outputChar (h : Alike k s t) : Alike k s.outputChar t.outputChar := by
  unfold State.outputChar
  rw [h.reg8]
  by_cases ha : s.outAnswers.head? = some .ioError
  · rw [hostOutByte_ioError _ _ ha, hostOutByte_ioError _ _ (h.host.outAnswers ▸ ha)]
    exact h.hostRefuses.raise _
  · rw [hostOutByte_ok _ _ ha, hostOutByte_ok _ _ (h.host.outAnswers ▸ ha)]
    exact h.hostSends _

theorem Alike.outputString (h : Alike k s t) (n : Nat) (off : Word) :
    AlikeOutcomes k (s.outputString n off) (t.outputString n off) := by
  induction n generalizing s t off with
  | zero => exact rfl
  | succ n ih =>
    have haddr : phys (t.reg .ds) off = phys (s.reg .ds) off := by rw [h.reg .ds nofun]
    have hbyte : t.byteAt (phys (t.reg .ds) off) = s.byteAt (phys (s.reg .ds) off) := by rw [haddr, h.byteAt]
    have hread := h.emit (.read (phys (s.reg .ds) off) .byte)
    by_cases hd : s.byteAt (phys (s.reg .ds) off) = 0x24
    · rw [outputString_dollar _ _ _ hd, outputString_dollar _ _ _ (hbyte.trans hd), haddr]
      exact hread
    · by_cases ha : s.outAnswers.head? = some .ioError
      · rw [outputString_refused _ _ _ hd ha, outputString_refused _ _ _ (hbyte ▸ hd) (h.host.outAnswers ▸ ha), haddr]
        exact hread.hostRefuses.raise _
      · rw [outputString_sends _ _ _ hd ha, outputString_sends _ _ _ (hbyte ▸ hd) (h.host.outAnswers ▸ ha), hbyte, haddr]
        exact ih (hread.hostSends _) _

theorem Alike.exit (h : Alike k s t) : Alike k s.exit t.exit :=
  { h with host := { h.host with exitCode := congrArg some (h.reg8 .al), runState := rfl } }

theorem Alike.unhandled (h : Alike k s t) (n : Byte) : Alike k (s.unhandled n) (t.unhandled n) := by
  unfold State.unhandled
  rw [h.host.params, h.reg8]
  cases s.params.unhandledInt with
  | fault => exact h.raise _
  | noop => exact h

theorem Alike.handlerAct (h : Alike k s t) (a : HandlerAction) : Alike k (s.handlerAct a) (t.handlerAct a) := by
  cases a with
  | writeReg r v => exact h.setReg r v
  | readMem a size => exact h.emit _
  | writeByte a v => exact h.storeByte a v
  | writeWord a v => exact h.storeWord a v

theorem Alike.handlerActs (h : Alike k s t) (l : List HandlerAction) :
    Alike k (l.foldl State.handlerAct s) (l.foldl State.handlerAct t) := by
  induction l generalizing s t with
  | nil => exact h
  | cons a l ih => exact ih (h.handlerAct a)

theorem Alike.callHandler (h : Alike k s t) (n : Byte) : AlikeOutcomes k (s.callHandler n) (t.callHandler n) := by
  cases he : s.handlerEffects with
  | nil =>
    rw [callHandler_notGiven _ _ he, callHandler_notGiven _ _ (h.host.handlerEffects.trans he)]
    exact rfl
  | cons e rest =>
    rw [callHandler_given _ _ he, callHandler_given _ _ (h.host.handlerEffects.trans he)]
    have hrest : Alike k { s with handlerEffects := rest } { t with handlerEffects := rest } :=
      { h with host := { h.host with handlerEffects := rfl } }
    have hacts := hrest.handlerActs e.actions
    exact hacts.halt.ite hacts

theorem Alike.int21 (h : Alike k s t) : AlikeOutcomes k s.int21 t.int21 := by
  unfold State.int21
  have hb : t.outputBound = s.outputBound := congrArg (fun l => Config.segmentOffsets + l.length) h.host.outAnswers
  rw [h.reg8, h.reg .dx nofun, hb]
  exact .ite h.outputChar (.ite (h.outputString _ _) (.ite h.exit (h.unhandled _)))

theorem Alike.interrupt (h : Alike k s t) (n : Byte) : AlikeOutcomes k (s.interrupt n) (t.interrupt n) := by
  unfold State.interrupt
  rw [h.host.params]
  exact .ite h.int21 (.ite (h.callHandler n) (h.unhandled n))

/-! ## One instruction and one step -/

/-- From alike states an instruction does the same. -/
theorem Alike.exec (h : Alike k s t) (i : Instr) : AlikeOutcomes k (exec i s) (exec i t) := by
  cases i with
  | addRm8R8 d r | orRm8R8 d r | adcRm8R8 d r | sbbRm8R8 d r | andRm8R8 d r | subRm8R8 d r | xorRm8R8 d r
  | cmpRm8R8 d r =>
    exact h.alu _ (h.place8 d) (.place (.reg8 r))
  | addRm16R16 d r | orRm16R16 d r | adcRm16R16 d r | sbbRm16R16 d r | andRm16R16 d r | subRm16R16 d r
  | xorRm16R16 d r | cmpRm16R16 d r =>
    exact h.alu _ (h.place16 d) (.place (.reg16 r))
  | addR8Rm8 d r | orR8Rm8 d r | adcR8Rm8 d r | sbbR8Rm8 d r | andR8Rm8 d r | subR8Rm8 d r | xorR8Rm8 d r
  | cmpR8Rm8 d r =>
    exact h.alu _ (.reg8 d) (.place (h.place8 r))
  | addR16Rm16 d r | orR16Rm16 d r | adcR16Rm16 d r | sbbR16Rm16 d r | andR16Rm16 d r | subR16Rm16 d r
  | xorR16Rm16 d r | cmpR16Rm16 d r =>
    exact h.alu _ (.reg16 d) (.place (h.place16 r))
  | addAlImm8 v | orAlImm8 v | adcAlImm8 v | sbbAlImm8 v | andAlImm8 v | subAlImm8 v | xorAlImm8 v | cmpAlImm8 v =>
    exact h.alu _ .al (.imm v)
  | addAxImm16 v | orAxImm16 v | adcAxImm16 v | sbbAxImm16 v | andAxImm16 v | subAxImm16 v | xorAxImm16 v
  | cmpAxImm16 v =>
    exact h.alu _ .ax (.imm v)
  | addRm8Imm8 d v | orRm8Imm8 d v | adcRm8Imm8 d v | sbbRm8Imm8 d v | andRm8Imm8 d v | subRm8Imm8 d v
  | xorRm8Imm8 d v | cmpRm8Imm8 d v =>
    exact h.alu _ (h.place8 d) (.imm v)
  | addRm16Imm16 d v | orRm16Imm16 d v | adcRm16Imm16 d v | sbbRm16Imm16 d v | andRm16Imm16 d v | subRm16Imm16 d v
  | xorRm16Imm16 d v | cmpRm16Imm16 d v =>
    exact h.alu _ (h.place16 d) (.imm v)
  | addRm16Simm8 d v | orRm16Simm8 d v | adcRm16Simm8 d v | sbbRm16Simm8 d v | andRm16Simm8 d v | subRm16Simm8 d v
  | xorRm16Simm8 d v | cmpRm16Simm8 d v =>
    exact h.alu _ (h.place16 d) (.imm (sext16 v))
  | testRm8R8 d r => exact h.test (h.place8 d) (.place (.reg8 r))
  | testRm16R16 d r => exact h.test (h.place16 d) (.place (.reg16 r))
  | testAlImm8 v => exact h.test .al (.imm v)
  | testAxImm16 v => exact h.test .ax (.imm v)
  | testRm8Imm8 d v => exact h.test (h.place8 d) (.imm v)
  | testRm16Imm16 d v => exact h.test (h.place16 d) (.imm v)
  | incR16 r => exact h.inc (.reg16 r)
  | incRm8 r => exact h.inc (h.place8 r)
  | incRm16 r => exact h.inc (h.place16 r)
  | decR16 r => exact h.dec (.reg16 r)
  | decRm8 r => exact h.dec (h.place8 r)
  | decRm16 r => exact h.dec (h.place16 r)
  | negRm8 r => exact h.neg (h.place8 r)
  | negRm16 r => exact h.neg (h.place16 r)
  | notRm8 r => exact h.not (h.place8 r)
  | notRm16 r => exact h.not (h.place16 r)
  | rolRm8One r | rorRm8One r | rclRm8One r | rcrRm8One r | shlRm8One r | shrRm8One r | sarRm8One r =>
    exact h.shift _ (h.place8 r) rfl
  | rolRm16One r | rorRm16One r | rclRm16One r | rcrRm16One r | shlRm16One r | shrRm16One r | sarRm16One r =>
    exact h.shift _ (h.place16 r) rfl
  | rolRm8Cl r | rorRm8Cl r | rclRm8Cl r | rcrRm8Cl r | shlRm8Cl r | shrRm8Cl r | sarRm8Cl r =>
    exact h.shift _ (h.place8 r) h.clCount
  | rolRm16Cl r | rorRm16Cl r | rclRm16Cl r | rcrRm16Cl r | shlRm16Cl r | shrRm16Cl r | sarRm16Cl r =>
    exact h.shift _ (h.place16 r) h.clCount
  | mulRm8 r => exact h.mul8 (h.place8 r)
  | mulRm16 r => exact h.mul16 (h.place16 r)
  | imulRm8 r => exact h.imul8 (h.place8 r)
  | imulRm16 r => exact h.imul16 (h.place16 r)
  | divRm8 r => exact h.div8 (h.place8 r)
  | divRm16 r => exact h.div16 (h.place16 r)
  | idivRm8 r => exact h.idiv8 (h.place8 r)
  | idivRm16 r => exact h.idiv16 (h.place16 r)
  | cbw => exact h.cbw
  | cwd => exact h.cwd
  | movRm8R8 d r => exact h.move (h.place8 d) (.place (.reg8 r))
  | movRm16R16 d r => exact h.move (h.place16 d) (.place (.reg16 r))
  | movR8Rm8 d r => exact h.move (.reg8 d) (.place (h.place8 r))
  | movR16Rm16 d r => exact h.move (.reg16 d) (.place (h.place16 r))
  | movRm16Es d => exact h.move (h.place16 d) (.place (.sreg .es))
  | movRm16Cs d => exact h.move (h.place16 d) (.place (.sreg .cs))
  | movRm16Ss d => exact h.move (h.place16 d) (.place (.sreg .ss))
  | movRm16Ds d => exact h.move (h.place16 d) (.place (.sreg .ds))
  | movEsRm16 r => exact h.move (.sreg .es) (.place (h.place16 r))
  | movSsRm16 r => exact h.move (.sreg .ss) (.place (h.place16 r))
  | movDsRm16 r => exact h.move (.sreg .ds) (.place (h.place16 r))
  | movAlMoffs off => exact h.move .al (.place (.byteAt (h.moffs off)))
  | movAxMoffs off => exact h.move .ax (.place (.wordAt (h.moffs off)))
  | movMoffsAl off => exact h.move (.byteAt (h.moffs off)) (.place .al)
  | movMoffsAx off => exact h.move (.wordAt (h.moffs off)) (.place .ax)
  | movR8Imm8 d v => exact h.move (.reg8 d) (.imm v)
  | movR16Imm16 d v => exact h.move (.reg16 d) (.imm v)
  | pushEs => exact h.pushPlace (.sreg .es)
  | pushCs => exact h.pushPlace (.sreg .cs)
  | pushSs => exact h.pushPlace (.sreg .ss)
  | pushDs => exact h.pushPlace (.sreg .ds)
  | pushR16 r => exact h.pushPlace (.reg16 r)
  | pushRm16 r => exact h.pushPlace (h.place16 r)
  | popEs => exact h.popPlace (.sreg .es)
  | popSs => exact h.popPlace (.sreg .ss)
  | popDs => exact h.popPlace (.sreg .ds)
  | popR16 r => exact h.popPlace (.reg16 r)
  | popRm16 r => exact h.popPlace (h.place16 r)
  | joRel8 d | jnoRel8 d | jbRel8 d | jnbRel8 d | jeRel8 d | jneRel8 d | jbeRel8 d | jaRel8 d | jsRel8 d
  | jnsRel8 d | jpRel8 d | jnpRel8 d | jlRel8 d | jgeRel8 d | jleRel8 d | jgRel8 d =>
    exact h.jumpIf _ d
  | loopneRel8 d => exact h.loop (congrArg Bool.not (h.flag .zf rfl)) d
  | loopeRel8 d => exact h.loop (h.flag .zf rfl) d
  | loopRel8 d => exact h.loop rfl d
  | jmpRel16 d | jmpRel8 d => exact h.jumpRel _
  | jmpFar off seg => exact h.jumpFar off seg
  | callRel16 d => exact h.callNear d
  | callFar off seg => exact h.callFar off seg
  | ret => exact h.returnNear
  | retImm16 v => exact h.returnNear.dropBytes v
  | retf => exact h.returnFar
  | retfImm16 v => exact h.returnFar.dropBytes v
  | iret => exact h.interruptReturn
  | intImm8 n => exact h.interrupt n
  | nop => exact h
  | hlt => exact h.halt
  | sahf => exact h.sahf
  | lahf => exact h.lahf
  | clc | stc | cli | sti | cld | std => exact h.setFlag _ _
  | movsb | movsw | cmpsb | cmpsw | stosb | stosw | lodsb | lodsw | scasb | scasw => exact h.stringOnce _
  | rep op => exact h.rep op
  | repne op => exact h.repne _

theorem Alike.fetchAddr (h : Alike k s t) : t.fetchAddr = s.fetchAddr := by
  rw [State.fetchAddr, State.fetchAddr, h.reg .cs nofun, h.reg .ip nofun]

theorem Alike.fetchWindow (h : Alike k s t) : t.fetchWindow = s.fetchWindow := by
  have hb : t.fetchByte = s.fetchByte := by
    funext j
    rw [State.fetchByte, State.fetchByte, h.reg .cs nofun, h.reg .ip nofun, h.byteAt]
  rw [State.fetchWindow, State.fetchWindow, hb]

theorem Alike.breakpointApplies (h : Alike k s t) : t.breakpointApplies = s.breakpointApplies := by
  rw [State.breakpointApplies, State.breakpointApplies, h.fetchAddr, h.host.breakpoints, h.host.bpResume]

theorem Alike.hitBreakpoint (h : Alike k s t) : Alike k s.hitBreakpoint t.hitBreakpoint :=
  { h with host := { h.host with runState := rfl, bpResume := congrArg some h.fetchAddr } }

theorem Alike.beginAttempt (h : Alike k s t) : Alike k s.beginAttempt t.beginAttempt := by
  unfold State.beginAttempt
  have hr : Alike k { s with runState := .running, bpResume := none } { t with runState := .running, bpResume := none } :=
    { h with host := { h.host with runState := rfl, bpResume := rfl } }
  rw [h.fetchAddr]
  exact hr.emit _

theorem Alike.commitFetch (h : Alike k s t) (len : Nat) : Alike k (s.commitFetch len) (t.commitFetch len) := by
  unfold State.commitFetch
  rw [h.reg .ip nofun]
  exact h.setReg _ _

theorem Alike.finish (h : Alike k s t) : Alike k s.finish t.finish := by
  unfold State.finish
  rw [h.host.runState]
  cases s.runState with
  | running => exact { h with host := { h.host with runState := rfl } }
  | idle | paused | halted | faulted => exact h

/-- The end of the step keeps outcomes alike. -/
theorem AlikeOutcomes.finish {a b : Host.Outcome State Fault Refusal} (h : AlikeOutcomes k a b) :
    AlikeOutcomes k (finishOutcome a) (finishOutcome b) :=
  match a, b, h with
  | .next _, .next _, h => Alike.finish h
  | .fault _, .fault _, h | .refused _, .refused _, h => h

theorem Alike.attempt (h : Alike k s t) : AlikeOutcomes k s.attempt t.attempt := by
  unfold State.attempt
  rw [h.fetchWindow]
  split
  · exact h.beginAttempt.raise _
  · exact AlikeOutcomes.finish ((h.beginAttempt.commitFetch _).exec _)

/-- From alike states a step does the same. -/
theorem Alike.step (h : Alike k s t) : AlikeOutcomes k (step s) (step t) := by
  unfold Machine.step State.cycle
  rw [h.host.runState, h.breakpointApplies]
  cases s.runState with
  | halted | faulted => exact h
  | running => exact rfl
  | idle | paused =>
    exact AlikeOutcomes.ite h.hitBreakpoint h.attempt

end Congruence

/-- Outcomes related by one relation are related by any it implies. -/
theorem OutcomesRelated.imp {R Q : State → State → Prop} (hi : ∀ {s t}, R s t → Q s t)
    {a b : Host.Outcome State Fault Refusal} (h : OutcomesRelated R a b) : OutcomesRelated Q a b :=
  match a, b, h with
  | .next _, .next _, h => hi h
  | .fault _, .fault _, h | .refused _, .refused _, h => h

/-- Settles O59: no operation reads TF or IF, so a step carries states alike but for them to such states. -/
theorem trapAndInterruptFlagsAreInert : Obligations.TrapAndInterruptFlagsAreInert := fun _ _ h =>
  (agreeButTrapAndInterrupt_iff.mp h).step.imp agreeButTrapAndInterrupt_iff.mpr

/-- Settles O60: no operation reads the trace, so a step carries states alike but for it to such states. -/
theorem traceIsInert : Obligations.TraceIsInert := fun _ _ h =>
  (agreeButTrace_iff.mp h).step.imp agreeButTrace_iff.mpr

end Sys2Proof.Machine

/-! SUPPORT. What each instruction writes of FLAGS and the segment registers (10_state.md R28, R31), how an instruction that may stop ends, and the invariant of the core over a step (10_state.md R29 to R38). -/

namespace Sys2Proof.Machine

/-! ## What an instruction may write -/

/-- The segment registers among the fourteen (10_state.md R31). -/
def segmentRegs : List RegId := [.cs, .ds, .es, .ss]

/-- No whole segment register is in the footprint. -/
def Footprint.NoSegment (f : Footprint) : Prop := ∀ r ∈ f.regs, r ∉ segmentRegs

/-- The footprint holds flags and segment registers only if 10_state.md R28 and R31 let the instruction write them. -/
structure Footprint.Allowed (f : Footprint) (i : Instr) : Prop where
  flags : writesFlags i = false → f.flags = []
  segments : ∀ r ∈ segmentRegs, writesSegment r i = false → r ∉ f.regs

theorem Footprint.Allowed.of_writer {f : Footprint} {i : Instr} (hw : writesFlags i = true) (hs : f.NoSegment) :
    f.Allowed i :=
  ⟨fun h => absurd (hw.symm.trans h) nofun, fun r hr _ hm => hs r hm hr⟩

theorem Footprint.Allowed.of_noFlags {f : Footprint} {i : Instr} (hf : f.flags = []) (hs : f.NoSegment) : f.Allowed i :=
  ⟨fun _ => hf, fun r hr _ hm => hs r hm hr⟩

theorem Footprint.NoSegment.of_subset {f : Footprint} {l : List RegId} (h : f.regs ⊆ l) (hl : ∀ r ∈ l, r ∉ segmentRegs) :
    f.NoSegment :=
  fun r hr => hl r (h hr)

@[simp] theorem Footprint.noSegment_and (f g : Footprint) : (f.and g).NoSegment ↔ f.NoSegment ∧ g.NoSegment := by
  simp only [Footprint.NoSegment, Footprint.and, List.forall_mem_append]

@[simp] theorem Footprint.noSegment_mk (rs : List RegId) (hs : List Reg8) (gs : List Flag) (bs : List PAddr) :
    Footprint.NoSegment ⟨rs, hs, gs, bs⟩ ↔ ∀ r ∈ rs, r ∉ segmentRegs := Iff.rfl

@[simp] theorem Footprint.flags_and (f g : Footprint) : (f.and g).flags = f.flags ++ g.flags := rfl

@[simp] theorem Place.footprint_flags {n : Nat} (p : Place n) : p.footprint.flags = [] := by cases p <;> rfl

theorem Reg8.parent_not_segment (r : Reg8) : Reg8.parent r ∉ segmentRegs := by cases r <;> decide

@[simp] theorem Place.noSegment_reg16 (r : Reg16) : (Place.reg (Reg16.id r)).footprint.NoSegment := by
  cases r <;> simp [Place.footprint, segmentRegs, Reg16.id]
@[simp] theorem Place.noSegment_reg8 (r : Reg8) : (Place.reg8 r).footprint.NoSegment := nofun
@[simp] theorem Place.noSegment_byteAt (a : PAddr) : (Place.byteAt a).footprint.NoSegment := nofun
@[simp] theorem Place.noSegment_wordAt (a : PAddr) : (Place.wordAt a).footprint.NoSegment := nofun
@[simp] theorem placeAl_noSegment : placeAl.footprint.NoSegment := nofun
@[simp] theorem placeAx_noSegment : placeAx.footprint.NoSegment := Place.noSegment_reg16 .ax

@[simp] theorem State.place8_noSegment (s : State) (o : Rm8) : (s.place8 o).footprint.NoSegment := by
  cases o with
  | reg r => exact Place.noSegment_reg8 r
  | mem m => exact Place.noSegment_byteAt _

@[simp] theorem State.place16_noSegment (s : State) (o : Rm16) : (s.place16 o).footprint.NoSegment := by
  cases o with
  | reg r => exact Place.noSegment_reg16 r
  | mem m => exact Place.noSegment_wordAt _

/-- A writer of one segment register. -/
theorem Footprint.Allowed.of_segment {f : Footprint} {i : Instr} (w : RegId) (hw : writesSegment w i = true)
    (hf : writesFlags i = false → f.flags = []) (hs : ∀ r ∈ f.regs, r ∈ segmentRegs → r = w) : f.Allowed i :=
  ⟨hf, fun r hr hn hm => absurd ((hs r hm hr ▸ hw).symm.trans hn) nofun⟩

/-- The string instructions that write no flag. -/
def moveStrings : List StringOp := [.movsb, .movsw, .stosb, .stosw, .lodsb, .lodsw]

/-- A string instruction's footprint: the accumulator, the pointers and CX, and flags in a comparison only. -/
theorem Footprint.Allowed.of_string {f : Footprint} {i : Instr} {op : StringOp} (hr : f.regs ⊆ [.ax, .si, .di, .cx])
    (hn : op ∈ moveStrings → f.flags = []) (hw : writesFlags i = false → op ∈ moveStrings) : f.Allowed i :=
  ⟨fun h => hn (hw h), fun r hs _ hm => Footprint.NoSegment.of_subset hr (by decide) r hm hs⟩

theorem plainString_footprint (s : State) (op : StringOp) :
    ∃ t f, exec (plainString op) s = .next t ∧ Kept s t f ∧ f.Allowed (plainString op) := by
  obtain ⟨f, hf, hr, -, -, hn, -⟩ := kept_stringOnce s op
  have hw : writesFlags (plainString op) = false → op ∈ moveStrings := by cases op <;> decide
  have hsub : [RegId.ax, .si, .di] ⊆ [.ax, .si, .di, .cx] := by decide
  exact ⟨_, f, by cases op <;> rfl, hf, .of_string (List.Subset.trans hr hsub) hn hw⟩

theorem rep_footprint (s : State) (op : StringOp) :
    ∃ t f, exec (.rep op) s = .next t ∧ Kept s t f ∧ f.Allowed (.rep op) := by
  obtain ⟨f, hf, hr, -, -, hn⟩ := kept_repeatWhile op (repGoesOn op) (s.reg .cx).toNat s
  exact ⟨_, f, rfl, hf, .of_string hr hn (by cases op <;> decide)⟩

theorem repne_footprint (s : State) (op : CompareOp) :
    ∃ t f, exec (.repne op) s = .next t ∧ Kept s t f ∧ f.Allowed (.repne op) := by
  obtain ⟨f, hf, hr, -, -, hn⟩ := kept_repeatWhile (CompareOp.toStringOp op) repneGoesOn (s.reg .cx).toNat s
  exact ⟨_, f, rfl, hf, .of_string hr hn nofun⟩

/-! ## The footprints of the shared operations -/

theorem kept_move (s : State) {n : Nat} (dst : Place n) (h : dst.plain) (src : Source n) :
    Kept s (s.move dst src) dst.footprint :=
  have ⟨_, hk, _⟩ := move_spec s dst h src
  hk

theorem kept_alu (s : State) {n : Nat} (op : AluOp) (hop : aluWrites op = true) (dst : Place n) (h : dst.plain)
    (src : Source n) : Kept s (s.alu op dst src) (dst.footprint.and { flags := statusFlags }) :=
  have ⟨_, _, hk, _⟩ := alu_spec s op hop dst h src
  hk

theorem kept_cmp (s : State) {n : Nat} (dst : Place n) (src : Source n) :
    Kept s (s.alu .cmp dst src) { flags := statusFlags } :=
  have ⟨_, hk, _⟩ := cmp_spec s dst src
  hk

theorem kept_test (s : State) {n : Nat} (dst : Place n) (src : Source n) :
    Kept s (s.test dst src) { flags := statusFlags } :=
  have ⟨_, hk, _⟩ := test_spec s dst src
  hk

/-- INC and DEC (41_alu_flags.md R175). -/
theorem kept_keepCf (s : State) {n : Nat} (p : Place n) (h : p.plain) (out : AluOut n) :
    Kept s (((s.noteRead p).writePlace p out.result).setStatusKeepCf out.status)
      (p.footprint.and { flags := [.pf, .af, .zf, .sf, .of] }) :=
  have ⟨_, _, hk, _⟩ := keepCf_spec s p h out
  hk

theorem kept_neg (s : State) {n : Nat} (p : Place n) (h : p.plain) :
    Kept s (s.neg p) (p.footprint.and { flags := statusFlags }) :=
  have ⟨_, _, hk, _⟩ := neg_spec s p h
  hk

theorem kept_not (s : State) {n : Nat} (p : Place n) (h : p.plain) : Kept s (s.not p) p.footprint :=
  have ⟨_, hk, _⟩ := not_spec s p h
  hk

theorem kept_shift (s : State) {n : Nat} (op : ShiftOp) (p : Place n) (h : p.plain) (count : Nat) :
    Kept s (s.shift op p count) (p.footprint.and { flags := shiftWritten op count }) :=
  have ⟨_, _, _, _, hk, _⟩ := shift_spec s op p h count
  hk

/-- Every instruction that cannot stop keeps to what the tables of 10_state.md R28 and R31 let it write. -/
theorem exec_footprint (i : Instr) (hm : mayStop i = false) (s : State) :
    ∃ t f, exec i s = .next t ∧ Kept s t f ∧ f.Allowed i := by
  cases i with
  | addRm8R8 _ _ | addRm16R16 _ _ | addR8Rm8 _ _ | addR16Rm16 _ _ | addAlImm8 _ | addAxImm16 _ | addRm8Imm8 _ _
  | addRm16Imm16 _ _ | addRm16Simm8 _ _ | orRm8R8 _ _ | orRm16R16 _ _ | orR8Rm8 _ _ | orR16Rm16 _ _ | orAlImm8 _
  | orAxImm16 _ | orRm8Imm8 _ _ | orRm16Imm16 _ _ | orRm16Simm8 _ _ | adcRm8R8 _ _ | adcRm16R16 _ _ | adcR8Rm8 _ _
  | adcR16Rm16 _ _ | adcAlImm8 _ | adcAxImm16 _ | adcRm8Imm8 _ _ | adcRm16Imm16 _ _ | adcRm16Simm8 _ _
  | sbbRm8R8 _ _ | sbbRm16R16 _ _ | sbbR8Rm8 _ _ | sbbR16Rm16 _ _ | sbbAlImm8 _ | sbbAxImm16 _ | sbbRm8Imm8 _ _
  | sbbRm16Imm16 _ _ | sbbRm16Simm8 _ _ | andRm8R8 _ _ | andRm16R16 _ _ | andR8Rm8 _ _ | andR16Rm16 _ _
  | andAlImm8 _ | andAxImm16 _ | andRm8Imm8 _ _ | andRm16Imm16 _ _ | andRm16Simm8 _ _ | subRm8R8 _ _
  | subRm16R16 _ _ | subR8Rm8 _ _ | subR16Rm16 _ _ | subAlImm8 _ | subAxImm16 _ | subRm8Imm8 _ _ | subRm16Imm16 _ _
  | subRm16Simm8 _ _ | xorRm8R8 _ _ | xorRm16R16 _ _ | xorR8Rm8 _ _ | xorR16Rm16 _ _ | xorAlImm8 _ | xorAxImm16 _
  | xorRm8Imm8 _ _ | xorRm16Imm16 _ _ | xorRm16Simm8 _ _ =>
    exact ⟨_, _, rfl, kept_alu s _ rfl _ (by simp) _, .of_writer rfl (by simp)⟩
  | cmpRm8R8 _ _ | cmpRm16R16 _ _ | cmpR8Rm8 _ _ | cmpR16Rm16 _ _ | cmpAlImm8 _ | cmpAxImm16 _ | cmpRm8Imm8 _ _
  | cmpRm16Imm16 _ _ | cmpRm16Simm8 _ _ =>
    exact ⟨_, _, rfl, kept_cmp s _ _, .of_writer rfl (by simp)⟩
  | testRm8R8 _ _ | testRm16R16 _ _ | testAlImm8 _ | testAxImm16 _ | testRm8Imm8 _ _ | testRm16Imm16 _ _ =>
    exact ⟨_, _, rfl, kept_test s _ _, .of_writer rfl (by simp)⟩
  | incR16 _ | incRm8 _ | incRm16 _ =>
    exact ⟨_, _, rfl, kept_keepCf s _ (by simp) (incN _), .of_writer rfl (by simp)⟩
  | decR16 _ | decRm8 _ | decRm16 _ =>
    exact ⟨_, _, rfl, kept_keepCf s _ (by simp) (decN _), .of_writer rfl (by simp)⟩
  | negRm8 _ | negRm16 _ => exact ⟨_, _, rfl, kept_neg s _ (by simp), .of_writer rfl (by simp)⟩
  | notRm8 _ | notRm16 _ => exact ⟨_, _, rfl, kept_not s _ (by simp), .of_noFlags (by simp) (by simp)⟩
  | rolRm8One _ | rorRm8One _ | rclRm8One _ | rcrRm8One _ | shlRm8One _ | shrRm8One _ | sarRm8One _ | rolRm16One _
  | rorRm16One _ | rclRm16One _ | rcrRm16One _ | shlRm16One _ | shrRm16One _ | sarRm16One _ | rolRm8Cl _
  | rorRm8Cl _ | rclRm8Cl _ | rcrRm8Cl _ | shlRm8Cl _ | shrRm8Cl _ | sarRm8Cl _ | rolRm16Cl _ | rorRm16Cl _
  | rclRm16Cl _ | rcrRm16Cl _ | shlRm16Cl _ | shrRm16Cl _ | sarRm16Cl _ =>
    exact ⟨_, _, rfl, kept_shift s _ _ (by simp) _, .of_writer rfl (by simp)⟩
  | mulRm8 _ => exact ⟨_, _, rfl, kept_mul8 s _, .of_writer rfl (by simp [segmentRegs])⟩
  | mulRm16 _ => exact ⟨_, _, rfl, kept_mul16 s _, .of_writer rfl (by simp [segmentRegs])⟩
  | imulRm8 _ => exact ⟨_, _, rfl, kept_imul8 s _, .of_writer rfl (by simp [segmentRegs])⟩
  | imulRm16 _ => exact ⟨_, _, rfl, kept_imul16 s _, .of_writer rfl (by simp [segmentRegs])⟩
  | cbw | lahf => exact ⟨_, _, rfl, kept_setReg8 s _ _, .of_noFlags (by simp) (by simp [segmentRegs])⟩
  | cwd => exact ⟨_, _, rfl, kept_setReg s _ _ (by decide), .of_noFlags (by simp) (by simp [segmentRegs])⟩
  | movRm8R8 _ _ | movRm16R16 _ _ | movR8Rm8 _ _ | movR16Rm16 _ _ | movRm16Es _ | movRm16Cs _ | movRm16Ss _
  | movRm16Ds _ | movAlMoffs _ | movAxMoffs _ | movMoffsAl _ | movMoffsAx _ | movR8Imm8 _ _ | movR16Imm16 _ _ =>
    exact ⟨_, _, rfl, kept_move s _ (by simp) _, .of_noFlags (by simp) (by simp)⟩
  | movEsRm16 _ =>
    exact ⟨_, _, rfl, kept_move s _ (by simp) _,
      .of_segment .es rfl (by simp) (by simp [segmentRegs, Place.footprint])⟩
  | movSsRm16 _ =>
    exact ⟨_, _, rfl, kept_move s _ (by simp) _,
      .of_segment .ss rfl (by simp) (by simp [segmentRegs, Place.footprint])⟩
  | movDsRm16 _ =>
    exact ⟨_, _, rfl, kept_move s _ (by simp) _,
      .of_segment .ds rfl (by simp) (by simp [segmentRegs, Place.footprint])⟩
  | pushEs | pushCs | pushSs | pushDs | pushR16 _ | pushRm16 _ =>
    exact ⟨_, _, rfl, kept_pushPlace s _, .of_noFlags (by simp) (by simp [segmentRegs])⟩
  | popR16 _ | popRm16 _ =>
    exact ⟨_, _, rfl, kept_popPlace s _ (by simp), .of_noFlags (by simp) (by simp [segmentRegs])⟩
  | popEs =>
    exact ⟨_, _, rfl, kept_popPlace s _ (by simp),
      .of_segment .es rfl (by simp) (by simp [segmentRegs, Place.footprint, Footprint.and])⟩
  | popSs =>
    exact ⟨_, _, rfl, kept_popPlace s _ (by simp),
      .of_segment .ss rfl (by simp) (by simp [segmentRegs, Place.footprint, Footprint.and])⟩
  | popDs =>
    exact ⟨_, _, rfl, kept_popPlace s _ (by simp),
      .of_segment .ds rfl (by simp) (by simp [segmentRegs, Place.footprint, Footprint.and])⟩
  | joRel8 _ | jnoRel8 _ | jbRel8 _ | jnbRel8 _ | jeRel8 _ | jneRel8 _ | jbeRel8 _ | jaRel8 _ | jsRel8 _
  | jnsRel8 _ | jpRel8 _ | jnpRel8 _ | jlRel8 _ | jgeRel8 _ | jleRel8 _ | jgRel8 _ =>
    exact ⟨_, _, rfl, kept_jumpIf s _ _, .of_noFlags (by simp) (by simp [segmentRegs])⟩
  | loopneRel8 _ | loopeRel8 _ | loopRel8 _ =>
    exact ⟨_, _, rfl, kept_loop s _ _, .of_noFlags (by simp) (by simp [segmentRegs])⟩
  | jmpRel16 _ | jmpRel8 _ =>
    exact ⟨_, _, rfl, kept_jumpRel s _, .of_noFlags (by simp) (by simp [segmentRegs])⟩
  | callRel16 _ =>
    exact ⟨_, _, rfl, (kept_push16 s _).trans (kept_jumpRel _ _), .of_noFlags (by simp) (by simp [segmentRegs])⟩
  | ret => exact ⟨_, _, rfl, kept_returnNear s, .of_noFlags (by simp) (by simp [segmentRegs])⟩
  | retImm16 _ =>
    exact ⟨_, _, rfl, (kept_returnNear s).trans (kept_dropBytes _ _), .of_noFlags (by simp) (by simp [segmentRegs])⟩
  | jmpFar _ _ =>
    exact ⟨_, _, rfl, kept_jumpFar s _ _, .of_segment .cs rfl (by simp) (by simp [segmentRegs])⟩
  | callFar _ _ =>
    exact ⟨_, _, rfl, ((kept_push16 s _).trans (kept_push16 _ _)).trans (kept_jumpFar _ _ _),
      .of_segment .cs rfl (by simp) (by simp [segmentRegs, Footprint.and])⟩
  | retf => exact ⟨_, _, rfl, kept_returnFar s, .of_segment .cs rfl (by simp) (by simp [segmentRegs])⟩
  | retfImm16 _ =>
    exact ⟨_, _, rfl, (kept_returnFar s).trans (kept_dropBytes _ _),
      .of_segment .cs rfl (by simp) (by simp [segmentRegs, Footprint.and])⟩
  | iret => exact ⟨_, _, rfl, kept_interruptReturn s, .of_segment .cs rfl nofun (by simp [segmentRegs])⟩
  | nop => exact ⟨_, _, rfl, Kept.refl s, .of_noFlags (by simp) (by simp [segmentRegs])⟩
  | sahf => exact ⟨_, _, rfl, kept_loadFlagsByte s _, .of_writer rfl (by simp)⟩
  | clc | stc | cli | sti | cld | std => exact ⟨_, _, rfl, kept_setFlag s _ _, .of_writer rfl (by simp)⟩
  | movsb => exact plainString_footprint s .movsb
  | movsw => exact plainString_footprint s .movsw
  | cmpsb => exact plainString_footprint s .cmpsb
  | cmpsw => exact plainString_footprint s .cmpsw
  | stosb => exact plainString_footprint s .stosb
  | stosw => exact plainString_footprint s .stosw
  | lodsb => exact plainString_footprint s .lodsb
  | lodsw => exact plainString_footprint s .lodsw
  | scasb => exact plainString_footprint s .scasb
  | scasw => exact plainString_footprint s .scasw
  | rep op => exact rep_footprint s op
  | repne op => exact repne_footprint s op
  | divRm8 _ | divRm16 _ | idivRm8 _ | idivRm16 _ | intImm8 _ | hlt => contradiction

/-! ## How an instruction that may stop ends -/

/-- Only the trace and the host's records and answers differ. -/
structure OnlyHost (s t : State) : Prop where
  regs : t.regs = s.regs
  mem : t.mem = s.mem
  runState : t.runState = s.runState
  breakpoints : t.breakpoints = s.breakpoints
  bpResume : t.bpResume = s.bpResume
  faultRecord : t.faultRecord = s.faultRecord
  exitCode : t.exitCode = s.exitCode

theorem OnlyHost.refl (s : State) : OnlyHost s s := ⟨rfl, rfl, rfl, rfl, rfl, rfl, rfl⟩

theorem OnlyHost.recorded (s : State) (out : List Byte) (answers : List OutAnswer) (events : List Event) :
    OnlyHost s { s with hostOut := out, outAnswers := answers, trace := events } :=
  ⟨rfl, rfl, rfl, rfl, rfl, rfl, rfl⟩

theorem OnlyHost.trans {s t u : State} (h : OnlyHost s t) (k : OnlyHost t u) : OnlyHost s u :=
  ⟨k.regs.trans h.regs, k.mem.trans h.mem, k.runState.trans h.runState, k.breakpoints.trans h.breakpoints,
    k.bpResume.trans h.bpResume, k.faultRecord.trans h.faultRecord, k.exitCode.trans h.exitCode⟩

/-- From `u` an instruction goes on, faults, halts or exits with a code. -/
inductive EndsFrom (u : State) : State → Prop where
  | goesOn : EndsFrom u u
  | faults (k : FaultKind) : EndsFrom u (u.raise k)
  | halts : EndsFrom u u.halt
  | exits : EndsFrom u u.exit

theorem EndsFrom.reg_eq {u t : State} (h : EndsFrom u t) (r : RegId) : t.reg r = u.reg r := by
  cases h <;> rfl

/-- What a division changes at most. -/
def divisionFootprint : Footprint := { regs := [.ax, .dx], halves := [.al, .ah] }

theorem kept_quotient8 (s : State) (p : Place 8) (q r : Byte) :
    Kept s (((s.noteRead p).setReg8 .al q).setReg8 .ah r) divisionFootprint :=
  (((kept_noteRead s p).trans (kept_setReg8 _ .al q)).trans (kept_setReg8 _ .ah r)).mono
    (by decide) (by decide) (by decide) (by decide)

theorem kept_quotient16 (s : State) (p : Place 16) (q r : Word) :
    Kept s (((s.noteRead p).setReg .ax q).setReg .dx r) divisionFootprint :=
  (((kept_noteRead s p).trans (kept_setReg _ .ax q (by decide))).trans (kept_setReg _ .dx r (by decide))).mono
    (by decide) (by decide) (by decide) (by decide)

/-- A division writes its quotient and remainder, or reads its operand and faults. -/
def DivisionEnds (s : State) (o : Host.Outcome State Fault Refusal) : Prop :=
  ∀ t, o = .next t → ∃ u, Kept s u divisionFootprint ∧ EndsFrom u t

/-- The shape of every division: no divisor, a quotient that does not fit, or the results written. -/
theorem divisionEnds_ite {s u : State} {n : Nat} (p : Place n) {c d : Prop} [Decidable c] [Decidable d]
    (hu : Kept s u divisionFootprint) :
    DivisionEnds s (if c then .next ((s.noteRead p).raise .divideError)
      else if d then .next ((s.noteRead p).raise .divideError) else .next u) := by
  have hn : Kept s (s.noteRead p) divisionFootprint :=
    (kept_noteRead s p).mono (by simp) (by simp) (by simp) (by simp)
  intro t ht
  split at ht
  · cases ht; exact ⟨_, hn, .faults _⟩
  · split at ht
    · cases ht; exact ⟨_, hn, .faults _⟩
    · cases ht; exact ⟨_, hu, .goesOn⟩

theorem div8_ends (s : State) (p : Place 8) : DivisionEnds s (s.div8 p) :=
  divisionEnds_ite p (kept_quotient8 s p _ _)

theorem div16_ends (s : State) (p : Place 16) : DivisionEnds s (s.div16 p) :=
  divisionEnds_ite p (kept_quotient16 s p _ _)

theorem idiv8_ends (s : State) (p : Place 8) : DivisionEnds s (s.idiv8 p) :=
  divisionEnds_ite p (kept_quotient8 s p _ _)

theorem idiv16_ends (s : State) (p : Place 16) : DivisionEnds s (s.idiv16 p) :=
  divisionEnds_ite p (kept_quotient16 s p _ _)

/-- A division changes no register but AX and DX, also when it faults. -/
theorem DivisionEnds.reg_eq {s t : State} {o : Host.Outcome State Fault Refusal} (h : DivisionEnds s o) (ho : o = .next t)
    {r : RegId} (hr : r ∉ [RegId.ax, .dx]) : t.reg r = s.reg r := by
  obtain ⟨u, hk, he⟩ := h t ho
  rw [he.reg_eq r]
  by_cases hf : r = .flags
  · exact hf ▸ hk.flagsWord rfl
  · have hax : ∀ x ∈ divisionFootprint.halves, Reg8.parent x ∈ [RegId.ax, .dx] := by decide
    exact hk.regs r hf hr fun x hx e => hr (e ▸ hax x hx)

/-- One byte offered to the host: sent or refused, nothing but the host's records and answers differs. -/
theorem hostOutByte_onlyHost (s : State) (b : Byte) : OnlyHost s (s.hostOutByte b).2 := by
  unfold State.hostOutByte
  split <;> exact ⟨rfl, rfl, rfl, rfl, rfl, rfl, rfl⟩

theorem outputChar_ends (s : State) : ∃ u, OnlyHost s u ∧ EndsFrom u s.outputChar := by
  have hb := hostOutByte_onlyHost s (s.reg8 .dl)
  unfold State.outputChar
  split <;> rename_i u he <;> rw [he] at hb
  · exact ⟨u, hb, .goesOn⟩
  · exact ⟨u, hb, .faults _⟩

theorem outputString_ends {s t : State} {k : Nat} {off : Word} (h : s.outputString k off = .next t) :
    ∃ u, OnlyHost s u ∧ EndsFrom u t := by
  induction k generalizing s off with
  | zero => cases h
  | succ k ih =>
    by_cases hd : s.byteAt (phys (s.reg .ds) off) = 0x24
    · rw [outputString_dollar _ _ _ hd] at h
      cases h
      exact ⟨_, .recorded s _ _ _, .goesOn⟩
    · by_cases ha : s.outAnswers.head? = some .ioError
      · rw [outputString_refused _ _ _ hd ha] at h
        cases h
        exact ⟨_, .recorded s _ _ _, .faults _⟩
      · rw [outputString_sends _ _ _ hd ha] at h
        obtain ⟨u, hu, he⟩ := ih h
        exact ⟨u, .trans (.recorded s _ _ _) hu, he⟩

theorem unhandled_ends (s : State) (n : Byte) : EndsFrom s (s.unhandled n) := by
  rcases unhandled_cases s n with ⟨-, h⟩ | ⟨-, h⟩ <;> rw [h]
  · exact .faults _
  · exact .goesOn

/-- INT without a host handler other than that of INT 21h changes no register and no byte. -/
theorem interrupt_ends {s t : State} {n : Byte} (hn : n = 0x21 ∨ n ∉ s.params.intHandlers)
    (h : s.interrupt n = .next t) : ∃ u, OnlyHost s u ∧ EndsFrom u t := by
  rcases interrupt_cases s n with ⟨-, -, e⟩ | ⟨-, -, e⟩ | ⟨-, -, e⟩ | ⟨hne, hm, -⟩ | ⟨-, e⟩
  · rw [e] at h; cases h; exact outputChar_ends s
  · rw [e] at h; exact outputString_ends h
  · rw [e] at h; cases h; exact ⟨s, .refl s, .exits⟩
  · exact absurd hm (hn.resolve_left hne)
  · rw [e] at h; cases h; exact ⟨s, .refl s, unhandled_ends s n⟩

/-- The instructions that may stop: the four divisions, INT and HLT. -/
theorem mayStop_cases {i : Instr} (h : mayStop i = true) :
    (∃ o, i = .divRm8 o) ∨ (∃ o, i = .divRm16 o) ∨ (∃ o, i = .idivRm8 o) ∨ (∃ o, i = .idivRm16 o) ∨
      (∃ n, i = .intImm8 n) ∨ i = .hlt := by
  unfold mayStop at h
  split at h <;> simp at h ⊢

/-- An instruction that may stop changes no register but AX and DX, host handlers aside. -/
theorem reg_of_mayStop {i : Instr} {s t : State} (hm : mayStop i = true) (hn : NoHostHandler i s)
    (h : exec i s = .next t) {r : RegId} (hr : r ∉ [RegId.ax, .dx]) : t.reg r = s.reg r := by
  rcases mayStop_cases hm with ⟨o, rfl⟩ | ⟨o, rfl⟩ | ⟨o, rfl⟩ | ⟨o, rfl⟩ | ⟨n, rfl⟩ | rfl
  · exact (div8_ends s _).reg_eq h hr
  · exact (div16_ends s _).reg_eq h hr
  · exact (idiv8_ends s _).reg_eq h hr
  · exact (idiv16_ends s _).reg_eq h hr
  · obtain ⟨u, hk, he⟩ := interrupt_ends (hn n rfl) h
    exact (he.reg_eq r).trans (congrArg (·.get r) hk.regs)
  · cases h; rfl

/-- Settles O56: an instruction outside the table of R28 has a footprint without flags, or may stop and then changes no register but AX and DX. -/
theorem onlyTableInstructionsWriteFlags : Obligations.OnlyTableInstructionsWriteFlags := by
  intro i s t hw hn h
  cases hm : mayStop i with
  | true => exact reg_of_mayStop hm hn h (by decide)
  | false =>
    obtain ⟨u, f, hu, hk, ha⟩ := exec_footprint i hm s
    cases hu.symm.trans h
    exact hk.flagsWord (ha.flags hw)

/-- Settles O57: an instruction R31 does not name for a segment register has it in no footprint, nor an 8-bit view of it. -/
theorem onlyNamedInstructionsWriteSegments : Obligations.OnlyNamedInstructionsWriteSegments := by
  intro i s t r hr hw hn h
  cases hm : mayStop i with
  | true => exact reg_of_mayStop hm hn h ((by decide : ∀ q ∈ segmentRegs, q ∉ [RegId.ax, .dx]) r hr)
  | false =>
    obtain ⟨u, f, hu, hk, ha⟩ := exec_footprint i hm s
    cases hu.symm.trans h
    refine hk.regs r ?_ (ha.segments r hr hw) fun x _ hx => Reg8.parent_not_segment x (hx ▸ hr)
    rintro rfl
    exact absurd hr (by decide)

/-! ## The invariant of the core over a step -/

/-- The control state is the same, and what was well formed stays so. -/
structure Continues (s t : State) : Prop where
  runState : t.runState = s.runState
  breakpoints : t.breakpoints = s.breakpoints
  bpResume : t.bpResume = s.bpResume
  faultRecord : t.faultRecord = s.faultRecord
  exitCode : t.exitCode = s.exitCode
  flagsReserved : s.flagsReserved → t.flagsReserved
  memWf : s.mem.wf → t.mem.wf

theorem Kept.continues {s t : State} {f : Footprint} (h : Kept s t f) : Continues s t :=
  ⟨h.host.runState, h.host.breakpoints, h.host.bpResume, h.host.faultRecord, h.host.exitCode, h.flagsReserved, h.memWf⟩

theorem OnlyHost.continues {s t : State} (h : OnlyHost s t) : Continues s t :=
  ⟨h.runState, h.breakpoints, h.bpResume, h.faultRecord, h.exitCode, fun hf => by rw [State.flagsReserved, h.regs]; exact hf,
    fun hm => h.mem ▸ hm⟩

theorem DivisionEnds.continues {s t : State} {o : Host.Outcome State Fault Refusal} (h : DivisionEnds s o)
    (ho : o = .next t) : ∃ u, Continues s u ∧ EndsFrom u t :=
  have ⟨u, hk, he⟩ := h t ho
  ⟨u, hk.continues, he⟩

theorem Continues.trans {s t u : State} (h : Continues s t) (k : Continues t u) : Continues s u :=
  ⟨k.runState.trans h.runState, k.breakpoints.trans h.breakpoints, k.bpResume.trans h.bpResume,
    k.faultRecord.trans h.faultRecord, k.exitCode.trans h.exitCode, k.flagsReserved ∘ h.flagsReserved, k.memWf ∘ h.memWf⟩

theorem handlerAct_continues (s : State) (a : HandlerAction) : Continues s (s.handlerAct a) := by
  cases a with
  | writeReg r v =>
    by_cases hr : r = .flags
    · subst hr; exact (kept_setReg_flags s v).continues
    · exact (kept_setReg s r v hr).continues
  | readMem a size => exact (kept_emit s _).continues
  | writeByte a v => exact (kept_storeByte s a v).continues
  | writeWord a v => exact (kept_storeWord s a v).continues

theorem handlerActs_continue (l : List HandlerAction) (s : State) : Continues s (l.foldl State.handlerAct s) := by
  induction l generalizing s with
  | nil => exact (Kept.refl s).continues
  | cons a l ih => exact (handlerAct_continues s a).trans (ih _)

theorem callHandler_ends {s t : State} {n : Byte} (h : s.callHandler n = .next t) : ∃ u, Continues s u ∧ EndsFrom u t := by
  cases he : s.handlerEffects with
  | nil => rw [callHandler_notGiven _ _ he] at h; cases h
  | cons e rest =>
    rw [callHandler_given _ _ he] at h
    have hrest : OnlyHost s { s with handlerEffects := rest } := ⟨rfl, rfl, rfl, rfl, rfl, rfl, rfl⟩
    cases h
    refine ⟨_, hrest.continues.trans (handlerActs_continue e.actions _), ?_⟩
    split
    · exact .halts
    · exact .goesOn

/-- What any instruction does to the control state: it goes on, faults, halts or exits. -/
theorem exec_ends {i : Instr} {s t : State} (h : exec i s = .next t) : ∃ u, Continues s u ∧ EndsFrom u t := by
  cases hm : mayStop i with
  | false =>
    obtain ⟨u, f, hu, hk⟩ := exec_kept i hm s
    cases hu.symm.trans h
    exact ⟨t, hk.continues, .goesOn⟩
  | true =>
    rcases mayStop_cases hm with ⟨o, rfl⟩ | ⟨o, rfl⟩ | ⟨o, rfl⟩ | ⟨o, rfl⟩ | ⟨n, rfl⟩ | rfl
    · exact (div8_ends s _).continues h
    · exact (div16_ends s _).continues h
    · exact (idiv8_ends s _).continues h
    · exact (idiv16_ends s _).continues h
    · by_cases hn : n = 0x21 ∨ n ∉ s.params.intHandlers
      · obtain ⟨u, hk, he⟩ := interrupt_ends hn h; exact ⟨u, hk.continues, he⟩
      · have hc : s.interrupt n = s.callHandler n := by
          rw [State.interrupt, if_neg (fun e => hn (.inl e)), if_pos (Decidable.not_not.mp fun e => hn (.inr e))]
        exact callHandler_ends (hc.symm.trans h)
    · cases h; exact ⟨s, (Kept.refl s).continues, .halts⟩

/-- What holds from the start of an attempt until its instruction stops: as `State.Inv`, with the call in progress. -/
structure State.Attempting (s : State) : Prop where
  memWf : s.mem.wf
  flagsReserved : s.flagsReserved
  running : s.runState = .running
  noFault : s.faultRecord = none
  noExit : s.exitCode = none
  noLatch : s.bpResume = none
  breakpointsRising : s.breakpoints.Pairwise (fun f g => f < g)

theorem State.Attempting.continues {s t : State} (hs : s.Attempting) (h : Continues s t) : t.Attempting :=
  ⟨h.memWf hs.memWf, h.flagsReserved hs.flagsReserved, h.runState.trans hs.running, h.faultRecord.trans hs.noFault,
    h.exitCode.trans hs.noExit, h.bpResume.trans hs.noLatch, h.breakpoints ▸ hs.breakpointsRising⟩

/-- A core that can step has no fault and no exit code. -/
theorem State.Inv.of_canStep {s : State} (h : s.Inv) (hc : s.canStep) : s.faultRecord = none ∧ s.exitCode = none := by
  constructor
  · refine Option.not_isSome_iff_eq_none.mp fun hf => ?_
    have := h.faultRecorded.mpr hf
    rcases hc with e | e <;> rw [e] at this <;> cases this
  · refine Option.not_isSome_iff_eq_none.mp fun hx => ?_
    have := h.exitHalted hx
    rcases hc with e | e <;> rw [e] at this <;> cases this

theorem State.Inv.beginAttempt {s : State} (h : s.Inv) (hc : s.canStep) : s.beginAttempt.Attempting := by
  obtain ⟨hf, hx⟩ := h.of_canStep hc
  exact ⟨h.memWf, h.flagsReserved, rfl, hf, hx, rfl, h.breakpointsRising⟩

theorem State.Inv.hitBreakpoint {s : State} (h : s.Inv) (hc : s.canStep) : s.hitBreakpoint.Inv := by
  obtain ⟨hf, hx⟩ := h.of_canStep hc
  refine ⟨h.memWf, h.flagsReserved, nofun, ?_, ?_, fun _ => rfl, h.breakpointsRising⟩
  · simp [State.hitBreakpoint, hf]
  · simp [State.hitBreakpoint, hx]

/-- A fault taken in an attempt leaves the invariant. -/
theorem State.Attempting.inv_raise {s : State} (h : s.Attempting) (k : FaultKind) : (s.raise k).Inv where
  memWf := h.memWf
  flagsReserved := h.flagsReserved
  notRunning := nofun
  faultRecorded := by simp
  exitHalted := by simp [h.noExit]
  latchPaused := by simp [h.noLatch]
  breakpointsRising := h.breakpointsRising

/-- However an attempt ends, the end of the step leaves the invariant. -/
theorem State.Attempting.inv_finish {u t : State} (h : u.Attempting) (he : EndsFrom u t) : t.finish.Inv := by
  obtain ⟨hm, hf, hr, hnf, hnx, hnl, hb⟩ := h
  cases he with
  | faults k => exact State.Attempting.inv_raise ⟨hm, hf, hr, hnf, hnx, hnl, hb⟩ k
  | goesOn =>
    have e : u.finish = { u with runState := .paused } := by simp [State.finish, hr]
    rw [e]
    exact ⟨hm, hf, nofun, by simp [hnf], by simp [hnx], fun _ => rfl, hb⟩
  | halts => exact ⟨hm, hf, nofun, by simp [State.finish, hnf], fun _ => rfl, by simp [hnl], hb⟩
  | exits =>
    exact ⟨hm, hf, nofun, by simp [State.finish, State.exit, hnf], fun _ => rfl, by simp [State.exit, hnl], hb⟩

/-- Settles O9: by the four cases of a step; an attempt begins in `State.Attempting`, an instruction continues in it until it ends, and each end gives the invariant. -/
theorem stepKeepsInvariant : Obligations.StepKeepsInvariant := by
  intro s t hs h
  rcases step_cases h with ⟨-, rfl⟩ | ⟨hc, -, rfl⟩ | ⟨hc, -, -, rfl⟩ | ⟨hc, -, i, rest, u, -, hexec, rfl⟩
  · exact hs
  · exact hs.hitBreakpoint hc
  · exact (hs.beginAttempt hc).inv_raise _
  · obtain ⟨v, hv, he⟩ := exec_ends hexec
    have hbegun := (hs.beginAttempt hc).continues (kept_commitFetch _ (Config.maxInstrBytes - rest.length)).continues
    exact (hbegun.continues hv).inv_finish he

/-- Settles O8: memory and the breakpoint list are empty, FLAGS is 0, the core is Idle. -/
theorem resetMeetsInvariant : Obligations.ResetMeetsInvariant where
  memWf := ⟨.nil, nofun⟩
  flagsReserved := rfl
  notRunning := nofun
  faultRecorded := ⟨nofun, nofun⟩
  exitHalted := nofun
  latchPaused := nofun
  breakpointsRising := .nil

theorem State.reset_reg_eq_zero :
    ∀ r ∈ [RegId.ax, .bx, .cx, .dx, .bp, .si, .di, .es, .ip, .flags], State.reset.reg r = 0 := by decide

/-- Settles O7: `reset()` copies every field the table names from the state at creation, which holds its values. -/
theorem resetGivesTableValues : Obligations.ResetGivesTableValues := by
  intro s t ht
  simp only [List.mem_cons, List.not_mem_nil, or_false] at ht
  rcases ht with rfl | rfl <;>
    exact ⟨State.reset_reg_eq_zero, rfl, rfl, rfl, rfl, fun _ => rfl, rfl, rfl, rfl, rfl, rfl, rfl, rfl, rfl⟩

end Sys2Proof.Machine

/-! SUPPORT. Words as bytes, the effective address of every mod and rm pair, and the stack (20_memory.md R60 to R72; 30_encoding.md R93, R94; 42_data_transfer.md R197 to R202). -/

namespace Sys2Proof

/-! ## The bytes of a word (20_memory.md R66, R67) -/

theorem toNat_loByte (w : Word) : (loByte w).toNat = w.toNat % 256 := by
  simp [loByte]

theorem toNat_hiByte (w : Word) : (hiByte w).toNat = w.toNat / 256 := by
  have hlt : w.toNat / 256 < 256 := by have := w.isLt; omega
  simp [hiByte, Nat.shiftRight_eq_div_pow, Nat.mod_eq_of_lt hlt]

theorem toNat_leWord (lo hi : Byte) : (leWord lo hi).toNat = lo.toNat + 256 * hi.toNat := by
  have hlo := toNat_loByte (leWord lo hi)
  have hhi := toNat_hiByte (leWord lo hi)
  rw [loByte_leWord] at hlo
  rw [hiByte_leWord] at hhi
  omega

end Sys2Proof

namespace Sys2Proof.Machine

/-- Settles O12: the rules for a byte read after a word stored, at `a`, at `a + 1` and elsewhere. -/
theorem wordReadsBackAfterWrite : Obligations.WordReadsBackAfterWrite := by
  intro s a w
  refine ⟨State.wordAt_storeWord s a w, ?_, ?_, fun b ha ha1 => ?_⟩
  · rw [State.byteAt_storeWord, if_neg (PAddr.add_one_ne a).symm, if_pos rfl, toNat_loByte]
  · rw [State.byteAt_storeWord, if_pos rfl, toNat_hiByte]
  · rw [State.byteAt_storeWord, if_neg ha1, if_neg ha]

/-! ## Addresses (20_memory.md R60; 30_encoding.md R93) -/

theorem toNat_phys (seg off : Word) : (phys seg off).toNat = (seg.toNat * 16 + off.toNat) % 2 ^ 20 := by
  have hseg : seg.toNat < 2 ^ 16 := seg.isLt
  have hoff : off.toNat < 2 ^ 16 := off.isLt
  simp only [phys, BitVec.toNat_add, BitVec.toNat_shiftLeft, BitVec.toNat_setWidth, Nat.shiftLeft_eq]
  omega

/-- The sum of the base and index registers of a row, before it is taken modulo 2^16. -/
def State.rowSum (s : State) : BaseIndex → Nat
  | .bxSi => (s.reg .bx).toNat + (s.reg .si).toNat
  | .bxDi => (s.reg .bx).toNat + (s.reg .di).toNat
  | .bpSi => (s.reg .bp).toNat + (s.reg .si).toNat
  | .bpDi => (s.reg .bp).toNat + (s.reg .di).toNat
  | .si => (s.reg .si).toNat
  | .di => (s.reg .di).toNat
  | .bp => (s.reg .bp).toNat
  | .bx => (s.reg .bx).toNat

theorem State.baseIndex_eq_ofNat (s : State) (b : BaseIndex) : s.baseIndex b = BitVec.ofNat 16 (s.rowSum b) := by
  cases b <;> simp [State.baseIndex, State.rowSum, BitVec.ofNat_add]

theorem State.toNat_effAddr_noDisp (s : State) (b : BaseIndex) :
    (s.effAddr (.noDisp b)).toNat = s.rowSum b % 2 ^ 16 := by
  rw [State.effAddr, s.baseIndex_eq_ofNat, BitVec.toNat_ofNat]

theorem State.toNat_effAddr_disp8 (s : State) (b : BaseIndex) (d : Byte) :
    ((s.effAddr (.disp8 b d)).toNat : Int) = (s.rowSum b + d.toInt) % 2 ^ 16 := by
  have hsum : s.effAddr (.disp8 b d) = BitVec.ofInt 16 (s.rowSum b + d.toInt) := by
    rw [State.effAddr, s.baseIndex_eq_ofNat, BitVec.ofInt_add, BitVec.ofInt_natCast]
    rfl
  rw [hsum, BitVec.toNat_ofInt]
  exact Int.toNat_of_nonneg (Int.emod_nonneg _ (by decide))

theorem State.toNat_effAddr_disp16 (s : State) (b : BaseIndex) (d : Word) :
    (s.effAddr (.disp16 b d)).toNat = (s.rowSum b + d.toNat) % 2 ^ 16 := by
  rw [State.effAddr, s.baseIndex_eq_ofNat, BitVec.toNat_add, BitVec.toNat_ofNat, Nat.mod_add_mod]

/-- Settles O13: `takeRm` answers by its equations, and each operand's address is the row's sum and displacement. -/
theorem addressesFollowTable : Obligations.AddressesFollowTable := by
  refine ⟨toNat_phys, fun s rm lo hi rest => ?_⟩
  refine ⟨s.rowSum (BaseIndex.ofBits rm), BaseIndex.segment (BaseIndex.ofBits rm), ?row, fun hrm => ?noDisp,
    fun hrm => ?direct, ?disp8, ?disp16, rfl⟩
  case row =>
    unfold BaseIndex.ofBits
    rcases rm.toNat with _ | _ | _ | _ | _ | _ | _ | _ <;> rfl
  case noDisp => exact ⟨_, takeRm_zero hrm _, s.toNat_effAddr_noDisp _, rfl⟩
  case direct => exact ⟨_, if_pos hrm, toNat_leWord lo hi, rfl⟩
  case disp8 => exact ⟨_, rfl, s.toNat_effAddr_disp8 _ lo, rfl⟩
  case disp16 =>
    refine ⟨_, rfl, ?_, rfl⟩
    rw [s.toNat_effAddr_disp16, toNat_leWord, Nat.add_assoc]

/-! ## PUSH and POP (20_memory.md R70, R71) -/

/-- PUSH from a place: SP, the word at the new top and the events (the frame is `kept_pushPlace`). -/
theorem pushPlace_spec (s : State) (p : Place 16) :
    (s.pushPlace p).reg .sp = s.reg .sp - 2 ∧
      (s.pushPlace p).wordAt (phys (s.reg .ss) (s.reg .sp - 2)) = s.valueOf p ∧
      (s.pushPlace p).trace =
        s.trace ++ p.readEvents ++ [.write (phys (s.reg .ss) (s.reg .sp - 2)) .word (s.valueOf p)] := by
  rw [State.pushPlace, State.push16_eq]
  exact ⟨by simp, by simp, by simp⟩

/-- An instruction that is PUSH of a place meets the rule of PUSH. -/
theorem pushes_of_exec {i : Instr} {src : State → Place 16} (h : ∀ s, exec i s = .next (s.pushPlace (src s))) :
    Pushes i src := by
  intro s
  obtain ⟨hsp, hword, htrace⟩ := pushPlace_spec s (src s)
  exact ⟨_, h s, hsp, hword, kept_pushPlace s (src s), htrace⟩

/-- Settles O21: every form of PUSH is `pushPlace`, which reads the place before it lowers SP. -/
theorem pushStoresAtNewTop : Obligations.PushStoresAtNewTop :=
  ⟨fun _ => pushes_of_exec fun _ => rfl, pushes_of_exec fun _ => rfl, pushes_of_exec fun _ => rfl,
    pushes_of_exec fun _ => rfl, pushes_of_exec fun _ => rfl, fun _ => pushes_of_exec fun _ => rfl⟩

theorem State.reg_writePlace_of_ne (s : State) {p : Place 16} {r : RegId} (h : p ≠ .reg r) (v : Word) :
    (s.writePlace p v).reg r = s.reg r := by
  cases p with
  | reg q =>
    have hne : r ≠ q := fun e => h (e ▸ rfl)
    simp [State.writePlace, hne]
  | wordAt a => rfl

theorem State.reg_sp_popped (s : State) : s.popped.reg .sp = s.reg .sp + 2 := by
  simp [State.popped]

theorem State.trace_popped (s : State) : s.popped.trace = s.trace ++ [.read s.stackTop .word] := rfl

/-- An instruction that is POP to places, none of them FLAGS, meets the rule of POP. -/
theorem pops_of_exec {i : Instr} {dst : State → Place 16} (hplain : ∀ s, (dst s).plain)
    (h : ∀ s, exec i s = .next (s.popPlace (dst s))) : Pops i dst := by
  intro s
  refine ⟨_, h s, State.valueOf_writePlace _ _ (hplain s) _, fun hsp => ?_, kept_popPlace s _ (hplain s), ?_⟩
  · rw [State.popPlace, State.reg_writePlace_of_ne _ hsp, State.reg_sp_popped]
  · rw [State.popPlace, State.trace_writePlace, State.trace_popped]
    rfl

/-- Settles O22: every form of POP is `popPlace`, which raises SP before it writes the popped word, so POP SP ends with that word. -/
theorem popLoadsFromTop : Obligations.PopLoadsFromTop :=
  ⟨fun r => pops_of_exec (fun _ => Place.reg16_plain r) fun _ => rfl, pops_of_exec (fun _ => nofun) fun _ => rfl,
    pops_of_exec (fun _ => nofun) fun _ => rfl, pops_of_exec (fun _ => nofun) fun _ => rfl,
    fun o => pops_of_exec (fun s => s.place16_plain o) fun _ => rfl⟩

end Sys2Proof.Machine

/-! SUPPORT. The decoder against the encoder and the tables of refused encodings (30_encoding.md R90 to R101, R120 to R123). Every instruction is read back from its bytes; after every opcode byte, what is read is the instruction those bytes encode, and a ModR/M reg field is refused only by the table. -/

namespace Sys2Proof

/-! ## Every instruction read back, by format (30_encoding.md R97) -/

theorem decode_encode (i : Instr) (rest : List Byte) (h : WellFormed i) : decode (encode i ++ rest) = .ok (i, rest) := by
  cases i with
  | addRm8R8 d s | orRm8R8 d s | adcRm8R8 d s | sbbRm8R8 d s | andRm8R8 d s | subRm8R8 d s | xorRm8R8 d s
  | cmpRm8R8 d s | testRm8R8 d s | movRm8R8 d s => exact rm8Reg8_bytes _ d s h rest
  | addRm16R16 d s | orRm16R16 d s | adcRm16R16 d s | sbbRm16R16 d s | andRm16R16 d s | subRm16R16 d s
  | xorRm16R16 d s | cmpRm16R16 d s | testRm16R16 d s | movRm16R16 d s => exact rm16Reg16_bytes _ d s h rest
  | addR8Rm8 d s | orR8Rm8 d s | adcR8Rm8 d s | sbbR8Rm8 d s | andR8Rm8 d s | subR8Rm8 d s | xorR8Rm8 d s
  | cmpR8Rm8 d s | movR8Rm8 d s => exact reg8Rm8_bytes _ s d h rest
  | addR16Rm16 d s | orR16Rm16 d s | adcR16Rm16 d s | sbbR16Rm16 d s | andR16Rm16 d s | subR16Rm16 d s
  | xorR16Rm16 d s | cmpR16Rm16 d s | movR16Rm16 d s => exact reg16Rm16_bytes _ s d h rest
  | addAlImm8 _ | orAlImm8 _ | adcAlImm8 _ | sbbAlImm8 _ | andAlImm8 _ | subAlImm8 _ | xorAlImm8 _ | cmpAlImm8 _
  | pushEs | pushCs | pushSs | pushDs | popEs | popSs | popDs | joRel8 _ | jnoRel8 _ | jbRel8 _ | jnbRel8 _
  | jeRel8 _ | jneRel8 _ | jbeRel8 _ | jaRel8 _ | jsRel8 _ | jnsRel8 _ | jpRel8 _ | jnpRel8 _ | jlRel8 _
  | jgeRel8 _ | jleRel8 _ | jgRel8 _ | nop | cbw | cwd | sahf | lahf | movsb | movsw | cmpsb | cmpsw
  | testAlImm8 _ | stosb | stosw | lodsb | lodsw | scasb | scasw | ret | retf | intImm8 _ | iret | loopneRel8 _
  | loopeRel8 _ | loopRel8 _ | jmpRel8 _ | hlt | clc | stc | cli | sti | cld | std => rfl
  | addAxImm16 w | orAxImm16 w | adcAxImm16 w | sbbAxImm16 w | andAxImm16 w | subAxImm16 w | xorAxImm16 w
  | cmpAxImm16 w | movAlMoffs w | movAxMoffs w | movMoffsAl w | movMoffsAx w | testAxImm16 w | retImm16 w
  | retfImm16 w | callRel16 w | jmpRel16 w => exact wordOperand_wordBytes _ w rest
  | addRm8Imm8 d v | orRm8Imm8 d v | adcRm8Imm8 d v | sbbRm8Imm8 d v | andRm8Imm8 d v | subRm8Imm8 d v
  | xorRm8Imm8 d v | cmpRm8Imm8 d v | testRm8Imm8 d v => exact group_tailRm8Byte _ _ _ _ rfl d v h rest
  | addRm16Imm16 d v | orRm16Imm16 d v | adcRm16Imm16 d v | sbbRm16Imm16 d v | andRm16Imm16 d v
  | subRm16Imm16 d v | xorRm16Imm16 d v | cmpRm16Imm16 d v | testRm16Imm16 d v =>
    exact group_tailRm16Word _ _ _ _ rfl d v h rest
  | addRm16Simm8 d v | orRm16Simm8 d v | adcRm16Simm8 d v | sbbRm16Simm8 d v | andRm16Simm8 d v
  | subRm16Simm8 d v | xorRm16Simm8 d v | cmpRm16Simm8 d v => exact group_tailRm16Byte _ _ _ _ rfl d v h rest
  | incR16 r | decR16 r | pushR16 r | popR16 r | movR8Imm8 r v => cases r <;> rfl
  | movRm16Es r | movRm16Cs r | movRm16Ss r | movRm16Ds r | movEsRm16 r | movSsRm16 r | movDsRm16 r | popRm16 r
  | rolRm16One r | rorRm16One r | rclRm16One r | rcrRm16One r | shlRm16One r | shrRm16One r | sarRm16One r
  | rolRm16Cl r | rorRm16Cl r | rclRm16Cl r | rcrRm16Cl r | shlRm16Cl r | shrRm16Cl r | sarRm16Cl r | notRm16 r
  | negRm16 r | mulRm16 r | imulRm16 r | divRm16 r | idivRm16 r | incRm16 r | decRm16 r | pushRm16 r =>
    exact group_tailRm16 _ _ _ _ rfl r h rest
  | callFar off seg | jmpFar off seg => exact farOperand_wordBytes _ off seg rest
  | movR16Imm16 r v => cases r <;> exact wordOperand_wordBytes _ v rest
  | rolRm8One r | rorRm8One r | rclRm8One r | rcrRm8One r | shlRm8One r | shrRm8One r | sarRm8One r | rolRm8Cl r
  | rorRm8Cl r | rclRm8Cl r | rcrRm8Cl r | shlRm8Cl r | shrRm8Cl r | sarRm8Cl r | notRm8 r | negRm8 r | mulRm8 r
  | imulRm8 r | divRm8 r | idivRm8 r | incRm8 r | decRm8 r => exact group_tailRm8 _ _ _ _ rfl r h rest
  | repne op | rep op => cases op <;> rfl

end Sys2Proof

namespace Sys2Proof.Machine

/-- Settles O2: each format's bytes are read back by its parser, which the opcode and the reg field select. -/
theorem decodeReadsBackEncode : Obligations.DecodeReadsBackEncode := decode_encode

end Sys2Proof.Machine

namespace Sys2Proof

/-! ## What a parsing step answers -/

theorem Parsed.andThen_eq_ok {α β : Type} {p : Parsed α} {f : α → List Byte → Parsed β} {r : β × List Byte}
    (h : p.andThen f = .ok r) : ∃ a bs, p = .ok (a, bs) ∧ f a bs = .ok r :=
  match p, h with
  | .ok (a, bs), h => ⟨a, bs, rfl, h⟩

theorem Parsed.andThen_eq_error {α β : Type} {p : Parsed α} {f : α → List Byte → Parsed β} {e : DecodeError}
    (h : p.andThen f = .error e) : p = .error e ∨ ∃ a bs, f a bs = .error e :=
  match p, h with
  | .error _, h => .inl (congrArg Except.error (Except.error.inj h))
  | .ok (a, bs), h => .inr ⟨a, bs, h⟩

theorem takeByte_eq_ok {bs rest : List Byte} {v : Byte} (h : takeByte bs = .ok (v, rest)) : bs = v :: rest :=
  match bs, h with
  | _ :: _, rfl => rfl

theorem takeWord_eq_ok {bs rest : List Byte} {v : Word} (h : takeWord bs = .ok (v, rest)) :
    bs = wordBytes v ++ rest :=
  match bs, h with
  | lo :: hi :: _, rfl => by simp [wordBytes]

/-- A parser of operands, whose one reason to refuse is that the bytes end. -/
def OnlyTruncates {α : Type} (p : Parsed α) : Prop := ∀ e, p = .error e → e = .truncated

theorem takeByte_onlyTruncates (bs : List Byte) : OnlyTruncates (takeByte bs) := fun _ h =>
  match bs, h with
  | [], rfl => rfl

theorem takeWord_onlyTruncates (bs : List Byte) : OnlyTruncates (takeWord bs) := fun _ h =>
  match bs, h with
  | [], rfl => rfl
  | [_], rfl => rfl

theorem OnlyTruncates.ok {α : Type} (a : α × List Byte) : OnlyTruncates (.ok a : Parsed α) := nofun

theorem OnlyTruncates.andThen {α β : Type} {p : Parsed α} {f : α → List Byte → Parsed β} (hp : OnlyTruncates p)
    (hf : ∀ a bs, OnlyTruncates (f a bs)) : OnlyTruncates (p.andThen f) := fun e h =>
  (Parsed.andThen_eq_error h).elim (hp e) fun ⟨a, bs, ha⟩ => hf a bs e ha

/-! ## Operand by operand: what was read, written again -/

theorem byteOperand_eq_ok {k : Byte → Instr} {bs rest : List Byte} {i : Instr}
    (h : byteOperand k bs = .ok (i, rest)) : ∃ v, i = k v ∧ bs = v :: rest := by
  obtain ⟨v, _, hv, ⟨⟩⟩ := Parsed.andThen_eq_ok h
  exact ⟨v, rfl, takeByte_eq_ok hv⟩

theorem wordOperand_eq_ok {k : Word → Instr} {bs rest : List Byte} {i : Instr}
    (h : wordOperand k bs = .ok (i, rest)) : ∃ v, i = k v ∧ bs = wordBytes v ++ rest := by
  obtain ⟨v, _, hv, ⟨⟩⟩ := Parsed.andThen_eq_ok h
  exact ⟨v, rfl, takeWord_eq_ok hv⟩

theorem farOperand_eq_ok {k : Word → Word → Instr} {bs rest : List Byte} {i : Instr}
    (h : farOperand k bs = .ok (i, rest)) : ∃ off seg, i = k off seg ∧ bs = (wordBytes off ++ wordBytes seg) ++ rest := by
  obtain ⟨off, mid, hoff, h⟩ := Parsed.andThen_eq_ok h
  obtain ⟨seg, _, hseg, ⟨⟩⟩ := Parsed.andThen_eq_ok h
  exact ⟨off, seg, rfl, by rw [takeWord_eq_ok hoff, takeWord_eq_ok hseg, List.append_assoc]⟩

theorem modRm_eq_ok {k : BitVec 3 → RegMem (BitVec 3) → Instr} {bs rest : List Byte} {i : Instr}
    (h : modRm k bs = .ok (i, rest)) :
    ∃ reg o, o.wellFormed = true ∧ i = k reg o ∧ bs = rmBytes reg o ++ rest := by
  match bs, h with
  | m :: bs, h =>
    obtain ⟨o, _, ho, ⟨⟩⟩ := Parsed.andThen_eq_ok h
    obtain ⟨hwf, hbs⟩ := rmBytes_takeRm ho
    exact ⟨mid3 m, o, hwf, rfl, hbs.symm⟩

theorem byteOperand_onlyTruncates (k : Byte → Instr) (bs : List Byte) : OnlyTruncates (byteOperand k bs) :=
  (takeByte_onlyTruncates bs).andThen fun _ _ => .ok _

theorem wordOperand_onlyTruncates (k : Word → Instr) (bs : List Byte) : OnlyTruncates (wordOperand k bs) :=
  (takeWord_onlyTruncates bs).andThen fun _ _ => .ok _

theorem farOperand_onlyTruncates (k : Word → Word → Instr) (bs : List Byte) : OnlyTruncates (farOperand k bs) :=
  (takeWord_onlyTruncates bs).andThen fun _ bs => (takeWord_onlyTruncates bs).andThen fun _ _ => .ok _

theorem takeRm_onlyTruncates (mod : BitVec 2) (rm : BitVec 3) (bs : List Byte) : OnlyTruncates (takeRm mod rm bs) := by
  unfold takeRm
  split
  · split
    · exact (takeWord_onlyTruncates bs).andThen fun _ _ => .ok _
    · exact .ok _
  · exact (takeByte_onlyTruncates bs).andThen fun _ _ => .ok _
  · exact (takeWord_onlyTruncates bs).andThen fun _ _ => .ok _
  · exact .ok _

theorem modRm_onlyTruncates (k : BitVec 3 → RegMem (BitVec 3) → Instr) (bs : List Byte) : OnlyTruncates (modRm k bs) :=
  match bs with
  | [] => fun _ h => (Except.error.inj h).symm
  | m :: bs => (takeRm_onlyTruncates (top2 m) (low3 m) bs).andThen fun _ _ => .ok _

/-! ## What the decoder does after an opcode byte -/

/-- The reg field `n` of opcode `op` is in the table of 30_encoding.md R121. -/
abbrev RefusedField (op : Byte) (n : BitVec 3) : Prop := ∃ p ∈ refusedExtensions, p.1 = op ∧ n ∈ p.2

/-- What is read after the opcode `op` is an instruction with exactly those bytes, and a reg field is refused only by the table of 30_encoding.md R121. -/
structure Reads (op : Byte) (p : List Byte → Parsed Instr) : Prop where
  written : ∀ {bs i rest}, p bs = .ok (i, rest) → WellFormed i ∧ encode i ++ rest = op :: bs
  refusal : ∀ {m bs b n}, p (m :: bs) = .error (.refusedExtension b n) → n = mid3 m ∧ RefusedField op n

theorem refusedOpcode_reads {op b : Byte} : Reads op fun _ => .error (.refusedOpcode b) := ⟨nofun, nofun⟩

theorem plain_reads {op : Byte} {i : Instr} (h : WellFormed i ∧ encode i = [op]) : Reads op fun bs => .ok (i, bs) where
  written := by rintro bs _ _ ⟨⟩; exact ⟨h.1, by rw [h.2]; rfl⟩
  refusal := nofun

theorem Reads.of_onlyTruncates {op : Byte} {p : List Byte → Parsed Instr} (hp : ∀ bs, OnlyTruncates (p bs))
    (hw : ∀ {bs i rest}, p bs = .ok (i, rest) → WellFormed i ∧ encode i ++ rest = op :: bs) : Reads op p where
  written := hw
  refusal h := nomatch hp _ _ h

theorem byteOperand_reads {op : Byte} {k : Byte → Instr} (h : ∀ v, WellFormed (k v) ∧ encode (k v) = [op, v]) :
    Reads op (byteOperand k) :=
  .of_onlyTruncates (byteOperand_onlyTruncates k) fun hok => by
    obtain ⟨v, rfl, rfl⟩ := byteOperand_eq_ok hok
    exact ⟨(h v).1, by rw [(h v).2]; rfl⟩

theorem wordOperand_reads {op : Byte} {k : Word → Instr}
    (h : ∀ v, WellFormed (k v) ∧ encode (k v) = op :: wordBytes v) : Reads op (wordOperand k) :=
  .of_onlyTruncates (wordOperand_onlyTruncates k) fun hok => by
    obtain ⟨v, rfl, rfl⟩ := wordOperand_eq_ok hok
    exact ⟨(h v).1, by rw [(h v).2]; rfl⟩

theorem farOperand_reads {op : Byte} {k : Word → Word → Instr}
    (h : ∀ off seg, WellFormed (k off seg) ∧ encode (k off seg) = op :: (wordBytes off ++ wordBytes seg)) :
    Reads op (farOperand k) :=
  .of_onlyTruncates (farOperand_onlyTruncates k) fun hok => by
    obtain ⟨off, seg, rfl, rfl⟩ := farOperand_eq_ok hok
    exact ⟨(h off seg).1, by rw [(h off seg).2]; rfl⟩

theorem modRm_reads {op : Byte} {k : BitVec 3 → RegMem (BitVec 3) → Instr}
    (h : ∀ reg o, (o.wellFormed = true → WellFormed (k reg o)) ∧ encode (k reg o) = op :: rmBytes reg o) :
    Reads op (modRm k) :=
  .of_onlyTruncates (modRm_onlyTruncates k) fun hok => by
    obtain ⟨reg, o, hwf, rfl, rfl⟩ := modRm_eq_ok hok
    exact ⟨(h reg o).1 hwf, by rw [(h reg o).2]; rfl⟩

@[simp] theorem rm8Bytes_map_ofBits (reg : BitVec 3) (o : RegMem (BitVec 3)) :
    rm8Bytes reg (o.map Reg8.ofBits) = rmBytes reg o := by rw [rm8Bytes, RegMem.map_bits_ofBits8]

@[simp] theorem rm16Bytes_map_ofBits (reg : BitVec 3) (o : RegMem (BitVec 3)) :
    rm16Bytes reg (o.map Reg16.ofBits) = rmBytes reg o := by rw [rm16Bytes, RegMem.map_bits_ofBits16]

theorem rm8Reg8_reads {op : Byte} {k : Rm8 → Reg8 → Instr}
    (h : ∀ o r, (o.wellFormed = true → WellFormed (k o r)) ∧ encode (k o r) = op :: rm8Bytes r.bits o) :
    Reads op (rm8Reg8 k) :=
  modRm_reads fun reg o => by simpa using h (o.map Reg8.ofBits) (Reg8.ofBits reg)

theorem reg8Rm8_reads {op : Byte} {k : Reg8 → Rm8 → Instr}
    (h : ∀ r o, (o.wellFormed = true → WellFormed (k r o)) ∧ encode (k r o) = op :: rm8Bytes r.bits o) :
    Reads op (reg8Rm8 k) :=
  rm8Reg8_reads (k := fun o r => k r o) fun o r => h r o

theorem rm16Reg16_reads {op : Byte} {k : Rm16 → Reg16 → Instr}
    (h : ∀ o r, (o.wellFormed = true → WellFormed (k o r)) ∧ encode (k o r) = op :: rm16Bytes r.bits o) :
    Reads op (rm16Reg16 k) :=
  modRm_reads fun reg o => by simpa using h (o.map Reg16.ofBits) (Reg16.ofBits reg)

theorem reg16Rm16_reads {op : Byte} {k : Reg16 → Rm16 → Instr}
    (h : ∀ r o, (o.wellFormed = true → WellFormed (k r o)) ∧ encode (k r o) = op :: rm16Bytes r.bits o) :
    Reads op (reg16Rm16 k) :=
  rm16Reg16_reads (k := fun o r => k r o) fun o r => h r o

/-! ## The group opcodes (30_encoding.md R101, R121) -/

/-- What is read after the r/m operand `o`, for the reg field `n` of the opcode `op`. -/
structure TailReads (op : Byte) (n : BitVec 3) (t : GroupTail) : Prop where
  written : ∀ {o bs i rest}, t o bs = .ok (i, rest) →
    (o.wellFormed = true → WellFormed i) ∧ encode i ++ rest = op :: (rmBytes n o ++ bs)
  onlyTruncates : ∀ o bs, OnlyTruncates (t o bs)

/-- What the row of a group opcode says: the table refuses the reg field, or the tail reads its instruction. -/
def GroupRow (op : Byte) (n : BitVec 3) : Option GroupTail → Prop
  | none => RefusedField op n
  | some t => TailReads op n t

theorem refusedRow {op : Byte} {n : BitVec 3} (h : RefusedField op n) : GroupRow op n none := h

theorem group_of_none {op m : Byte} {select : BitVec 3 → Option GroupTail} (h : select (mid3 m) = none) (bs : List Byte) :
    group op select (m :: bs) = .error (.refusedExtension op (mid3 m)) := by simp only [group, h]

theorem group_refuses {op m : Byte} {select : BitVec 3 → Option GroupTail} {ns : List (BitVec 3)}
    (hs : ∀ n ∈ ns, select n = none) (hm : mid3 m ∈ ns) (bs : List Byte) :
    group op select (m :: bs) = .error (.refusedExtension op (mid3 m)) := group_of_none (hs _ hm) bs

theorem group_of_some {op m : Byte} {select : BitVec 3 → Option GroupTail} {t : GroupTail}
    (h : select (mid3 m) = some t) (bs : List Byte) :
    group op select (m :: bs) = (takeRm (top2 m) (low3 m) bs).andThen t := by simp only [group, h]

theorem group_reads {op : Byte} {select : BitVec 3 → Option GroupTail}
    (h : ∀ n : Fin 8, GroupRow op (.ofFin n) (select (.ofFin n))) : Reads op (group op select) where
  written {bs _ _} hok := by
    match bs, hok with
    | m :: bs, hok =>
      have hrow : GroupRow op (mid3 m) (select (mid3 m)) := h (mid3 m).toFin
      cases hsel : select (mid3 m) with
      | none => exact nomatch (group_of_none hsel bs).symm.trans hok
      | some t =>
        rw [group_of_some hsel] at hok
        rw [hsel] at hrow
        obtain ⟨o, _, ho, ht⟩ := Parsed.andThen_eq_ok hok
        obtain ⟨hwf, hbytes⟩ := rmBytes_takeRm ho
        obtain ⟨hi, henc⟩ := hrow.written ht
        exact ⟨hi hwf, by rw [henc, hbytes]⟩
  refusal {m bs _ _} herr := by
    have hrow : GroupRow op (mid3 m) (select (mid3 m)) := h (mid3 m).toFin
    cases hsel : select (mid3 m) with
    | none =>
      rw [group_of_none hsel] at herr
      rw [hsel] at hrow
      cases herr
      exact ⟨rfl, hrow⟩
    | some t =>
      rw [group_of_some hsel] at herr
      rw [hsel] at hrow
      exact nomatch (takeRm_onlyTruncates _ _ _).andThen hrow.onlyTruncates _ herr

section Tails
variable {op : Byte} {n : BitVec 3}

theorem operandTail_reads {f : RegMem (BitVec 3) → Instr}
    (h : ∀ o, (o.wellFormed = true → WellFormed (f o)) ∧ encode (f o) = op :: rmBytes n o) :
    TailReads op n fun o bs => .ok (f o, bs) where
  written {o _ _ _} := by rintro ⟨⟩; exact ⟨(h o).1, by rw [(h o).2]; rfl⟩
  onlyTruncates _ _ := .ok _

theorem byteTail_reads {f : RegMem (BitVec 3) → Byte → Instr}
    (h : ∀ o v, (o.wellFormed = true → WellFormed (f o v)) ∧ encode (f o v) = op :: (rmBytes n o ++ [v])) :
    TailReads op n fun o => byteOperand (f o) where
  written {o _ _ _} hok := by
    obtain ⟨v, rfl, rfl⟩ := byteOperand_eq_ok hok
    exact ⟨(h o v).1, by simp [(h o v).2]⟩
  onlyTruncates o := byteOperand_onlyTruncates (f o)

theorem wordTail_reads {f : RegMem (BitVec 3) → Word → Instr}
    (h : ∀ o v, (o.wellFormed = true → WellFormed (f o v)) ∧ encode (f o v) = op :: (rmBytes n o ++ wordBytes v)) :
    TailReads op n fun o => wordOperand (f o) where
  written {o _ _ _} hok := by
    obtain ⟨v, rfl, rfl⟩ := wordOperand_eq_ok hok
    exact ⟨(h o v).1, by simp [(h o v).2]⟩
  onlyTruncates o := wordOperand_onlyTruncates (f o)

theorem tailRm8_reads {k : Rm8 → Instr}
    (h : ∀ o, (o.wellFormed = true → WellFormed (k o)) ∧ encode (k o) = op :: rm8Bytes n o) : TailReads op n (tailRm8 k) :=
  operandTail_reads fun o => by simpa using h (o.map Reg8.ofBits)

theorem tailRm16_reads {k : Rm16 → Instr}
    (h : ∀ o, (o.wellFormed = true → WellFormed (k o)) ∧ encode (k o) = op :: rm16Bytes n o) : TailReads op n (tailRm16 k) :=
  operandTail_reads fun o => by simpa using h (o.map Reg16.ofBits)

theorem tailRm8Byte_reads {k : Rm8 → Byte → Instr}
    (h : ∀ o v, (o.wellFormed = true → WellFormed (k o v)) ∧ encode (k o v) = op :: (rm8Bytes n o ++ [v])) :
    TailReads op n (tailRm8Byte k) :=
  byteTail_reads fun o v => by simpa using h (o.map Reg8.ofBits) v

theorem tailRm16Byte_reads {k : Rm16 → Byte → Instr}
    (h : ∀ o v, (o.wellFormed = true → WellFormed (k o v)) ∧ encode (k o v) = op :: (rm16Bytes n o ++ [v])) :
    TailReads op n (tailRm16Byte k) :=
  byteTail_reads fun o v => by simpa using h (o.map Reg16.ofBits) v

theorem tailRm16Word_reads {k : Rm16 → Word → Instr}
    (h : ∀ o v, (o.wellFormed = true → WellFormed (k o v)) ∧ encode (k o v) = op :: (rm16Bytes n o ++ wordBytes v)) :
    TailReads op n (tailRm16Word k) :=
  wordTail_reads fun o v => by simpa using h (o.map Reg16.ofBits) v

end Tails

theorem group80_reads : Reads 0x80 (group 0x80 group80) := group_reads fun
  | 0 | 1 | 2 | 3 | 4 | 5 | 6 | 7 => tailRm8Byte_reads fun _ _ => ⟨id, rfl⟩

theorem group81_reads : Reads 0x81 (group 0x81 group81) := group_reads fun
  | 0 | 1 | 2 | 3 | 4 | 5 | 6 | 7 => tailRm16Word_reads fun _ _ => ⟨id, rfl⟩

theorem group83_reads : Reads 0x83 (group 0x83 group83) := group_reads fun
  | 0 | 1 | 2 | 3 | 4 | 5 | 6 | 7 => tailRm16Byte_reads fun _ _ => ⟨id, rfl⟩

theorem group8C_reads : Reads 0x8C (group 0x8C group8C) := group_reads fun
  | 0 | 1 | 2 | 3 => tailRm16_reads fun _ => ⟨id, rfl⟩
  | 4 | 5 | 6 | 7 => refusedRow (by decide)

theorem group8E_reads : Reads 0x8E (group 0x8E group8E) := group_reads fun
  | 0 | 2 | 3 => tailRm16_reads fun _ => ⟨id, rfl⟩
  | 1 | 4 | 5 | 6 | 7 => refusedRow (by decide)

theorem group8F_reads : Reads 0x8F (group 0x8F group8F) := group_reads fun
  | 0 => tailRm16_reads fun _ => ⟨id, rfl⟩
  | 1 | 2 | 3 | 4 | 5 | 6 | 7 => refusedRow (by decide)

theorem groupD0_reads : Reads 0xD0 (group 0xD0 groupD0) := group_reads fun
  | 0 | 1 | 2 | 3 | 4 | 5 | 7 => tailRm8_reads fun _ => ⟨id, rfl⟩
  | 6 => refusedRow (by decide)

theorem groupD1_reads : Reads 0xD1 (group 0xD1 groupD1) := group_reads fun
  | 0 | 1 | 2 | 3 | 4 | 5 | 7 => tailRm16_reads fun _ => ⟨id, rfl⟩
  | 6 => refusedRow (by decide)

theorem groupD2_reads : Reads 0xD2 (group 0xD2 groupD2) := group_reads fun
  | 0 | 1 | 2 | 3 | 4 | 5 | 7 => tailRm8_reads fun _ => ⟨id, rfl⟩
  | 6 => refusedRow (by decide)

theorem groupD3_reads : Reads 0xD3 (group 0xD3 groupD3) := group_reads fun
  | 0 | 1 | 2 | 3 | 4 | 5 | 7 => tailRm16_reads fun _ => ⟨id, rfl⟩
  | 6 => refusedRow (by decide)

theorem groupF6_reads : Reads 0xF6 (group 0xF6 groupF6) := group_reads fun
  | 0 => tailRm8Byte_reads fun _ _ => ⟨id, rfl⟩
  | 1 => refusedRow (by decide)
  | 2 | 3 | 4 | 5 | 6 | 7 => tailRm8_reads fun _ => ⟨id, rfl⟩

theorem groupF7_reads : Reads 0xF7 (group 0xF7 groupF7) := group_reads fun
  | 0 => tailRm16Word_reads fun _ _ => ⟨id, rfl⟩
  | 1 => refusedRow (by decide)
  | 2 | 3 | 4 | 5 | 6 | 7 => tailRm16_reads fun _ => ⟨id, rfl⟩

theorem groupFE_reads : Reads 0xFE (group 0xFE groupFE) := group_reads fun
  | 0 | 1 => tailRm8_reads fun _ => ⟨id, rfl⟩
  | 2 | 3 | 4 | 5 | 6 | 7 => refusedRow (by decide)

theorem groupFF_reads : Reads 0xFF (group 0xFF groupFF) := group_reads fun
  | 0 | 1 | 6 => tailRm16_reads fun _ => ⟨id, rfl⟩
  | 2 | 3 | 4 | 5 | 7 => refusedRow (by decide)

/-! ## The repeat pairs (30_encoding.md R123) -/

theorem StringOp.opcode_of_ofOpcode {b : Byte} {o : StringOp} (h : StringOp.ofOpcode b = some o) : o.opcode = b := by
  unfold StringOp.ofOpcode at h
  split at h <;> cases h <;> exact BitVec.eq_of_toNat_eq (Eq.symm ‹_›)

theorem CompareOp.opcode_of_ofOpcode {b : Byte} {o : CompareOp} (h : CompareOp.ofOpcode b = some o) : o.opcode = b := by
  unfold CompareOp.ofOpcode at h
  split at h <;> cases h <;> exact BitVec.eq_of_toNat_eq (Eq.symm ‹_›)

theorem StringOp.ofOpcode_opcode (op : StringOp) : StringOp.ofOpcode op.opcode = some op := by cases op <;> rfl

theorem CompareOp.ofOpcode_opcode (op : CompareOp) : CompareOp.ofOpcode op.opcode = some op := by cases op <;> rfl

theorem StringOp.ofOpcode_eq_none :
    ∀ b : Byte, b ∉ [0xA4, 0xA5, 0xA6, 0xA7, 0xAA, 0xAB, 0xAC, 0xAD, 0xAE, 0xAF] → StringOp.ofOpcode b = none := by
  decide

theorem CompareOp.ofOpcode_eq_none : ∀ b : Byte, b ∉ [0xA6, 0xA7, 0xAE, 0xAF] → CompareOp.ofOpcode b = none := by
  decide

theorem decodeRep_of_some {b : Byte} {o : StringOp} (h : StringOp.ofOpcode b = some o) (bs : List Byte) :
    decodeRep (b :: bs) = .ok (.rep o, bs) := by simp only [decodeRep, h]

theorem decodeRep_of_none {b : Byte} (h : StringOp.ofOpcode b = none) (bs : List Byte) :
    decodeRep (b :: bs) = .error (.refusedPair 0xF3 b) := by simp only [decodeRep, h]

theorem decodeRepne_of_some {b : Byte} {o : CompareOp} (h : CompareOp.ofOpcode b = some o) (bs : List Byte) :
    decodeRepne (b :: bs) = .ok (.repne o, bs) := by simp only [decodeRepne, h]

theorem decodeRepne_of_none {b : Byte} (h : CompareOp.ofOpcode b = none) (bs : List Byte) :
    decodeRepne (b :: bs) = .error (.refusedPair 0xF2 b) := by simp only [decodeRepne, h]

/-- A first byte that makes one instruction with each second byte `select` admits, and refuses every other pair. -/
theorem pair_reads {α : Type} {op : Byte} {p : List Byte → Parsed Instr} {select : Byte → Option α} {k : α → Instr}
    (hnil : p [] = .error .truncated)
    (hsome : ∀ {b a}, select b = some a → ∀ bs, p (b :: bs) = .ok (k a, bs))
    (hnone : ∀ {b}, select b = none → ∀ bs, p (b :: bs) = .error (.refusedPair op b))
    (h : ∀ {b a}, select b = some a → WellFormed (k a) ∧ encode (k a) = [op, b]) : Reads op p where
  written {bs _ _} hok := by
    cases bs with
    | nil => exact nomatch hnil.symm.trans hok
    | cons b bs =>
      cases hb : select b with
      | none => exact nomatch (hnone hb bs).symm.trans hok
      | some a =>
        cases (hsome hb bs).symm.trans hok
        exact ⟨(h hb).1, by rw [(h hb).2]; rfl⟩
  refusal {b bs _ _} herr := by
    cases hb : select b with
    | none => exact nomatch (hnone hb bs).symm.trans herr
    | some a => exact nomatch (hsome hb bs).symm.trans herr

theorem decodeRep_reads : Reads 0xF3 decodeRep :=
  pair_reads rfl decodeRep_of_some decodeRep_of_none fun h => ⟨rfl, StringOp.opcode_of_ofOpcode h ▸ rfl⟩

theorem decodeRepne_reads : Reads 0xF2 decodeRepne :=
  pair_reads rfl decodeRepne_of_some decodeRepne_of_none fun h => ⟨rfl, CompareOp.opcode_of_ofOpcode h ▸ rfl⟩

/-! ## The opcode map (30_encoding.md R101), row by row -/

/-- The opcode byte in row `row` and column `col` of the map. -/
def opcodeAt (row col : Fin 16) : Byte := BitVec.ofNat 8 (16 * row + col)

theorem opcodeAt_nibbles (op : Byte) : opcodeAt (hiNibble op).toFin (loNibble op).toFin = op := by
  revert op; decide

/-- Every column of the row is read as its instruction is encoded. -/
def RowReads (row : Fin 16) : Prop := ∀ col : Fin 16, Reads (opcodeAt row col) (decodeOpcode (opcodeAt row col))

theorem decodeOpcode_row0 : RowReads 0x0
  | 0x0 | 0x8 => rm8Reg8_reads fun _ _ => ⟨id, rfl⟩
  | 0x1 | 0x9 => rm16Reg16_reads fun _ _ => ⟨id, rfl⟩
  | 0x2 | 0xA => reg8Rm8_reads fun _ _ => ⟨id, rfl⟩
  | 0x3 | 0xB => reg16Rm16_reads fun _ _ => ⟨id, rfl⟩
  | 0x4 | 0xC => byteOperand_reads fun _ => ⟨rfl, rfl⟩
  | 0x5 | 0xD => wordOperand_reads fun _ => ⟨rfl, rfl⟩
  | 0x6 | 0x7 | 0xE => plain_reads ⟨rfl, rfl⟩
  | 0xF => refusedOpcode_reads
  | ⟨_ + 16, h⟩ => absurd h (by omega)

theorem decodeOpcode_row1 : RowReads 0x1
  | 0x0 | 0x8 => rm8Reg8_reads fun _ _ => ⟨id, rfl⟩
  | 0x1 | 0x9 => rm16Reg16_reads fun _ _ => ⟨id, rfl⟩
  | 0x2 | 0xA => reg8Rm8_reads fun _ _ => ⟨id, rfl⟩
  | 0x3 | 0xB => reg16Rm16_reads fun _ _ => ⟨id, rfl⟩
  | 0x4 | 0xC => byteOperand_reads fun _ => ⟨rfl, rfl⟩
  | 0x5 | 0xD => wordOperand_reads fun _ => ⟨rfl, rfl⟩
  | 0x6 | 0x7 | 0xE | 0xF => plain_reads ⟨rfl, rfl⟩
  | ⟨_ + 16, h⟩ => absurd h (by omega)

theorem decodeOpcode_row2 : RowReads 0x2
  | 0x0 | 0x8 => rm8Reg8_reads fun _ _ => ⟨id, rfl⟩
  | 0x1 | 0x9 => rm16Reg16_reads fun _ _ => ⟨id, rfl⟩
  | 0x2 | 0xA => reg8Rm8_reads fun _ _ => ⟨id, rfl⟩
  | 0x3 | 0xB => reg16Rm16_reads fun _ _ => ⟨id, rfl⟩
  | 0x4 | 0xC => byteOperand_reads fun _ => ⟨rfl, rfl⟩
  | 0x5 | 0xD => wordOperand_reads fun _ => ⟨rfl, rfl⟩
  | 0x6 | 0x7 | 0xE | 0xF => refusedOpcode_reads
  | ⟨_ + 16, h⟩ => absurd h (by omega)

theorem decodeOpcode_row3 : RowReads 0x3
  | 0x0 | 0x8 => rm8Reg8_reads fun _ _ => ⟨id, rfl⟩
  | 0x1 | 0x9 => rm16Reg16_reads fun _ _ => ⟨id, rfl⟩
  | 0x2 | 0xA => reg8Rm8_reads fun _ _ => ⟨id, rfl⟩
  | 0x3 | 0xB => reg16Rm16_reads fun _ _ => ⟨id, rfl⟩
  | 0x4 | 0xC => byteOperand_reads fun _ => ⟨rfl, rfl⟩
  | 0x5 | 0xD => wordOperand_reads fun _ => ⟨rfl, rfl⟩
  | 0x6 | 0x7 | 0xE | 0xF => refusedOpcode_reads
  | ⟨_ + 16, h⟩ => absurd h (by omega)

theorem decodeOpcode_row4 : RowReads 0x4
  | 0x0 | 0x1 | 0x2 | 0x3 | 0x4 | 0x5 | 0x6 | 0x7
  | 0x8 | 0x9 | 0xA | 0xB | 0xC | 0xD | 0xE | 0xF => plain_reads ⟨rfl, rfl⟩
  | ⟨_ + 16, h⟩ => absurd h (by omega)

theorem decodeOpcode_row5 : RowReads 0x5
  | 0x0 | 0x1 | 0x2 | 0x3 | 0x4 | 0x5 | 0x6 | 0x7
  | 0x8 | 0x9 | 0xA | 0xB | 0xC | 0xD | 0xE | 0xF => plain_reads ⟨rfl, rfl⟩
  | ⟨_ + 16, h⟩ => absurd h (by omega)

theorem decodeOpcode_row6 : RowReads 0x6
  | 0x0 | 0x1 | 0x2 | 0x3 | 0x4 | 0x5 | 0x6 | 0x7
  | 0x8 | 0x9 | 0xA | 0xB | 0xC | 0xD | 0xE | 0xF => refusedOpcode_reads
  | ⟨_ + 16, h⟩ => absurd h (by omega)

theorem decodeOpcode_row7 : RowReads 0x7
  | 0x0 | 0x1 | 0x2 | 0x3 | 0x4 | 0x5 | 0x6 | 0x7
  | 0x8 | 0x9 | 0xA | 0xB | 0xC | 0xD | 0xE | 0xF => byteOperand_reads fun _ => ⟨rfl, rfl⟩
  | ⟨_ + 16, h⟩ => absurd h (by omega)

theorem decodeOpcode_row8 : RowReads 0x8
  | 0x0 => group80_reads
  | 0x1 => group81_reads
  | 0x2 | 0x6 | 0x7 | 0xD => refusedOpcode_reads
  | 0x3 => group83_reads
  | 0x4 | 0x8 => rm8Reg8_reads fun _ _ => ⟨id, rfl⟩
  | 0x5 | 0x9 => rm16Reg16_reads fun _ _ => ⟨id, rfl⟩
  | 0xA => reg8Rm8_reads fun _ _ => ⟨id, rfl⟩
  | 0xB => reg16Rm16_reads fun _ _ => ⟨id, rfl⟩
  | 0xC => group8C_reads
  | 0xE => group8E_reads
  | 0xF => group8F_reads
  | ⟨_ + 16, h⟩ => absurd h (by omega)

theorem decodeOpcode_row9 : RowReads 0x9
  | 0x0 | 0x8 | 0x9 | 0xE | 0xF => plain_reads ⟨rfl, rfl⟩
  | 0x1 | 0x2 | 0x3 | 0x4 | 0x5 | 0x6 | 0x7 | 0xB | 0xC | 0xD => refusedOpcode_reads
  | 0xA => farOperand_reads fun _ _ => ⟨rfl, rfl⟩
  | ⟨_ + 16, h⟩ => absurd h (by omega)

theorem decodeOpcode_rowA : RowReads 0xA
  | 0x0 | 0x1 | 0x2 | 0x3 | 0x9 => wordOperand_reads fun _ => ⟨rfl, rfl⟩
  | 0x4 | 0x5 | 0x6 | 0x7 | 0xA | 0xB | 0xC | 0xD | 0xE | 0xF => plain_reads ⟨rfl, rfl⟩
  | 0x8 => byteOperand_reads fun _ => ⟨rfl, rfl⟩
  | ⟨_ + 16, h⟩ => absurd h (by omega)

theorem decodeOpcode_rowB : RowReads 0xB
  | 0x0 | 0x1 | 0x2 | 0x3 | 0x4 | 0x5 | 0x6 | 0x7 => byteOperand_reads fun _ => ⟨rfl, rfl⟩
  | 0x8 | 0x9 | 0xA | 0xB | 0xC | 0xD | 0xE | 0xF => wordOperand_reads fun _ => ⟨rfl, rfl⟩
  | ⟨_ + 16, h⟩ => absurd h (by omega)

theorem decodeOpcode_rowC : RowReads 0xC
  | 0x0 | 0x1 | 0x4 | 0x5 | 0x6 | 0x7 | 0x8 | 0x9 | 0xC | 0xE => refusedOpcode_reads
  | 0x2 | 0xA => wordOperand_reads fun _ => ⟨rfl, rfl⟩
  | 0x3 | 0xB | 0xF => plain_reads ⟨rfl, rfl⟩
  | 0xD => byteOperand_reads fun _ => ⟨rfl, rfl⟩
  | ⟨_ + 16, h⟩ => absurd h (by omega)

theorem decodeOpcode_rowD : RowReads 0xD
  | 0x0 => groupD0_reads
  | 0x1 => groupD1_reads
  | 0x2 => groupD2_reads
  | 0x3 => groupD3_reads
  | 0x4 | 0x5 | 0x6 | 0x7 | 0x8 | 0x9 | 0xA | 0xB | 0xC | 0xD | 0xE | 0xF => refusedOpcode_reads
  | ⟨_ + 16, h⟩ => absurd h (by omega)

theorem decodeOpcode_rowE : RowReads 0xE
  | 0x0 | 0x1 | 0x2 | 0xB => byteOperand_reads fun _ => ⟨rfl, rfl⟩
  | 0x3 | 0x4 | 0x5 | 0x6 | 0x7 | 0xC | 0xD | 0xE | 0xF => refusedOpcode_reads
  | 0x8 | 0x9 => wordOperand_reads fun _ => ⟨rfl, rfl⟩
  | 0xA => farOperand_reads fun _ _ => ⟨rfl, rfl⟩
  | ⟨_ + 16, h⟩ => absurd h (by omega)

theorem decodeOpcode_rowF : RowReads 0xF
  | 0x0 | 0x1 | 0x5 => refusedOpcode_reads
  | 0x2 => decodeRepne_reads
  | 0x3 => decodeRep_reads
  | 0x4 | 0x8 | 0x9 | 0xA | 0xB | 0xC | 0xD => plain_reads ⟨rfl, rfl⟩
  | 0x6 => groupF6_reads
  | 0x7 => groupF7_reads
  | 0xE => groupFE_reads
  | 0xF => groupFF_reads
  | ⟨_ + 16, h⟩ => absurd h (by omega)

theorem decodeOpcode_row : ∀ row, RowReads row
  | 0x0 => decodeOpcode_row0
  | 0x1 => decodeOpcode_row1
  | 0x2 => decodeOpcode_row2
  | 0x3 => decodeOpcode_row3
  | 0x4 => decodeOpcode_row4
  | 0x5 => decodeOpcode_row5
  | 0x6 => decodeOpcode_row6
  | 0x7 => decodeOpcode_row7
  | 0x8 => decodeOpcode_row8
  | 0x9 => decodeOpcode_row9
  | 0xA => decodeOpcode_rowA
  | 0xB => decodeOpcode_rowB
  | 0xC => decodeOpcode_rowC
  | 0xD => decodeOpcode_rowD
  | 0xE => decodeOpcode_rowE
  | 0xF => decodeOpcode_rowF
  | ⟨_ + 16, h⟩ => absurd h (by omega)

theorem decodeOpcode_reads (op : Byte) : Reads op (decodeOpcode op) := by
  rw [← opcodeAt_nibbles op]
  exact decodeOpcode_row _ _

/-! ## First bytes (30_encoding.md R120) -/

theorem decode_refusedFirstByte (bs : List Byte) :
    ∀ b ∈ refusedFirstBytes, decode (b :: bs) = .error (.refusedOpcode b) := by
  repeat refine List.forall_mem_cons.2 ⟨rfl, ?_⟩
  exact nofun

/-- Bytes that make an instruction of every admitted first byte: the opcode of CMPSB after 0xF2 or 0xF3, and zeros after any other, which are a ModR/M byte with reg field 0, admitted by every group, and operand bytes enough. -/
def someTail (b : Byte) : List Byte := if b = 0xF2 ∨ b = 0xF3 then [0xA6] else [0, 0, 0, 0]

theorem decode_someTail_isOk : ∀ b : Byte, b ∉ refusedFirstBytes → (decode (b :: someTail b)).isOk = true := by decide

end Sys2Proof

namespace Sys2Proof.Machine

theorem decode_stringOpcode (op : StringOp) (bs : List Byte) :
    decode (op.opcode :: bs) = .ok (plainString op, bs) := by cases op <;> rfl

theorem CompareOp.opcode_toStringOp (op : CompareOp) : (CompareOp.toStringOp op).opcode = op.opcode := by cases op <;> rfl

/-! ## The statements about decoding -/

/-- Settles O3, by the opcode byte: its row of the map says how the instruction it reads is encoded. -/
theorem encodeGivesDecodedBytes : Obligations.EncodeGivesDecodedBytes := by
  intro bs i rest h
  cases bs with
  | nil => cases h
  | cons op bs => exact (decodeOpcode_reads op).written h

/-- Settles O4: a listed byte is refused on sight, and any other begins an instruction with the bytes `someTail`. -/
theorem refusedFirstBytesAreTheTable : Obligations.RefusedFirstBytesAreTheTable := by
  refine ⟨fun b hb bs => decode_refusedFirstByte bs b hb, fun b hb => ?_⟩
  have hok := decode_someTail_isOk b hb
  cases hd : decode (b :: someTail b) with
  | error _ => rw [hd] at hok; cases hok
  | ok r => exact ⟨_, r.1, r.2, hd⟩

/-- Settles O5: each listed opcode is a group that selects nothing for the listed reg fields, and no other parser refuses a reg field. -/
theorem refusedExtensionsAreTheTable : Obligations.RefusedExtensionsAreTheTable := by
  refine ⟨?_, fun b m bs n h => ?_⟩
  · repeat refine List.forall_mem_cons.2 ⟨fun m bs hm => group_refuses (by decide) hm bs, ?_⟩
    exact nofun
  · obtain ⟨hn, row, hrow, hop, hmem⟩ := (decodeOpcode_reads b).refusal h
    exact ⟨row, hrow, hop, hn, hmem⟩

/-- Settles O6: the second byte of an admitted pair is the string instruction's own opcode. -/
theorem repeatPairsAreTheTable : Obligations.RepeatPairsAreTheTable := by
  refine ⟨fun op bs => ?_, fun op bs => ?_, fun b bs hb => ?_, fun b bs hb => ?_⟩
  · exact ⟨op.opcode, decode_stringOpcode op bs, decodeRep_of_some op.ofOpcode_opcode bs⟩
  · exact ⟨op.opcode, CompareOp.opcode_toStringOp op ▸ decode_stringOpcode _ bs,
      decodeRepne_of_some op.ofOpcode_opcode bs⟩
  · exact decodeRep_of_none (StringOp.ofOpcode_eq_none b hb) bs
  · exact decodeRepne_of_none (CompareOp.ofOpcode_eq_none b hb) bs

/-- Settles O1: the decoder computes each word. -/
theorem sampleWordsDecode : Obligations.SampleWordsDecode :=
  ⟨rfl, rfl, rfl, rfl, rfl, rfl, rfl, rfl, rfl, rfl, rfl, rfl⟩

end Sys2Proof.Machine

/-! SUPPORT. The step and the run (40_execution_cycle.md R140 to R164): what stands at CS:IP is what a step runs, a breakpoint stops once, and what the loop of `run` counts. -/

namespace Sys2Proof

/-- The length of every encoding at once, by the format of the operands (30_encoding.md R90). -/
theorem encode_length (i : Instr) : 1 ≤ (encode i).length ∧ (encode i).length ≤ Config.maxInstrBytes := by
  open Laws.EncodeLength in
  cases i with
  | addRm8R8 | orRm8R8 | adcRm8R8 | sbbRm8R8 | andRm8R8 | subRm8R8 | xorRm8R8 | cmpRm8R8 | testRm8R8 | movRm8R8
  | addR8Rm8 | orR8Rm8 | adcR8Rm8 | sbbR8Rm8 | andR8Rm8 | subR8Rm8 | xorR8Rm8 | cmpR8Rm8 | movR8Rm8
  | rolRm8One | rorRm8One | rclRm8One | rcrRm8One | shlRm8One | shrRm8One | sarRm8One
  | rolRm8Cl | rorRm8Cl | rclRm8Cl | rcrRm8Cl | shlRm8Cl | shrRm8Cl | sarRm8Cl
  | notRm8 | negRm8 | mulRm8 | imulRm8 | divRm8 | idivRm8 | incRm8 | decRm8 =>
    exact of_operand_alone (rm8Bytes_length _ _)
  | addRm16R16 | orRm16R16 | adcRm16R16 | sbbRm16R16 | andRm16R16 | subRm16R16 | xorRm16R16 | cmpRm16R16
  | testRm16R16 | movRm16R16 | addR16Rm16 | orR16Rm16 | adcR16Rm16 | sbbR16Rm16 | andR16Rm16 | subR16Rm16
  | xorR16Rm16 | cmpR16Rm16 | movR16Rm16 | movRm16Es | movRm16Cs | movRm16Ss | movRm16Ds | movEsRm16 | movSsRm16
  | movDsRm16 | popRm16 | rolRm16One | rorRm16One | rclRm16One | rcrRm16One | shlRm16One | shrRm16One | sarRm16One
  | rolRm16Cl | rorRm16Cl | rclRm16Cl | rcrRm16Cl | shlRm16Cl | shrRm16Cl | sarRm16Cl
  | notRm16 | negRm16 | mulRm16 | imulRm16 | divRm16 | idivRm16 | incRm16 | decRm16 | pushRm16 =>
    exact of_operand_alone (rm16Bytes_length _ _)
  | addRm8Imm8 | orRm8Imm8 | adcRm8Imm8 | sbbRm8Imm8 | andRm8Imm8 | subRm8Imm8 | xorRm8Imm8 | cmpRm8Imm8
  | testRm8Imm8 => exact of_operand (rm8Bytes_length _ _) (Nat.le_of_ble_eq_true rfl)
  | addRm16Imm16 | orRm16Imm16 | adcRm16Imm16 | sbbRm16Imm16 | andRm16Imm16 | subRm16Imm16 | xorRm16Imm16
  | cmpRm16Imm16 | testRm16Imm16 | addRm16Simm8 | orRm16Simm8 | adcRm16Simm8 | sbbRm16Simm8 | andRm16Simm8
  | subRm16Simm8 | xorRm16Simm8 | cmpRm16Simm8 =>
    exact of_operand (rm16Bytes_length _ _) (Nat.le_of_ble_eq_true rfl)
  | _ => exact ⟨Nat.le_of_ble_eq_true rfl, Nat.le_of_ble_eq_true rfl⟩

end Sys2Proof

namespace Sys2Proof.Machine

/-! ## The instruction at CS:IP (R140, R143, R147) -/

/-- What decodes takes as many bytes of the window as its encoding has, so IP is committed past the encoding. -/
theorem attempt_of_decode {s : State} {i : Instr} {rest : List Byte} (h : decode s.fetchWindow = .ok (i, rest)) :
    s.attempt = finishOutcome (exec i (s.beginAttempt.commitFetch (encode i).length)) := by
  have hbytes := (encodeGivesDecodedBytes _ _ _ h).2
  have hlen : (encode i).length + rest.length = Config.maxInstrBytes := by
    rw [← List.length_append, hbytes, length_fetchWindow]
  rw [attempt_ok h, ← hlen, Nat.add_sub_cancel]

/-- Settles O14: the state handed to the instruction is the one with the attempt begun and IP committed. -/
theorem stepRunsDecodedInstruction : Obligations.StepRunsDecodedInstruction := by
  intro s i rest hc hb hd
  refine ⟨s.beginAttempt.commitFetch (encode i).length, (step_attempt hc hb).trans (attempt_of_decode hd),
    rfl, fun r hr => ?_, fun _ => rfl, rfl, rfl, rfl, rfl, rfl, rfl, rfl, rfl, rfl, rfl⟩
  exact (State.reg_setReg _ _ _ _).trans (if_neg hr)

theorem getElem_fetchWindow (s : State) {k : Nat} (hk : k < s.fetchWindow.length) : s.fetchWindow[k] = s.fetchByte k := by
  simp [State.fetchWindow]

/-- Bytes that stand at CS:IP, no more than a window holds, begin the window. -/
theorem fetchWindow_eq_append {s : State} {bs : List Byte} (hlen : bs.length ≤ Config.maxInstrBytes)
    (h : ∀ k b, bs[k]? = some b → s.fetchByte k = b) : ∃ rest, s.fetchWindow = bs ++ rest := by
  have htake : s.fetchWindow.take bs.length = bs := by
    refine List.ext_getElem (by simp [length_fetchWindow, hlen]) fun k _ hk => ?_
    rw [List.getElem_take, getElem_fetchWindow]
    exact h k _ (List.getElem?_eq_getElem hk)
  refine ⟨s.fetchWindow.drop bs.length, ?_⟩
  calc s.fetchWindow
      = s.fetchWindow.take bs.length ++ s.fetchWindow.drop bs.length := (List.take_append_drop _ _).symm
    _ = bs ++ s.fetchWindow.drop bs.length := by rw [htake]

/-- Settles O15: the encoding begins the fetch window, and the decoder reads it back whatever follows. -/
theorem stepRunsInstructionAtCsIp : Obligations.StepRunsInstructionAtCsIp := by
  intro s i hwf hc hb hbytes
  obtain ⟨rest, hwindow⟩ := fetchWindow_eq_append (encode_length i).2 hbytes
  have hd : decode s.fetchWindow = .ok (i, rest) := hwindow ▸ decode_encode i rest hwf
  exact (step_attempt hc hb).trans (attempt_of_decode hd)

/-! ## Breakpoints (R141) -/

theorem breakpointApplies_iff {s : State} :
    s.breakpointApplies = true ↔ s.fetchAddr ∈ s.breakpoints ∧ s.bpResume ≠ some s.fetchAddr := by
  simp [State.breakpointApplies]

/-- The latch holds the address the core stopped at, which is still CS:IP. -/
@[simp] theorem breakpointApplies_hitBreakpoint (s : State) : s.hitBreakpoint.breakpointApplies = false :=
  Bool.eq_false_iff.2 fun h => (breakpointApplies_iff.1 h).2 rfl

/-- Settles O17: the stop sets the latch, with which the breakpoint no longer applies, so the next step attempts. -/
theorem breakpointStopsOnce : Obligations.BreakpointStopsOnce := by
  intro s hc hmem hlatch
  have hstop : step s = .next s.hitBreakpoint := by
    rw [step_of_canStep hc, if_pos (breakpointApplies_iff.2 ⟨hmem, hlatch⟩)]
  have hnext : step s.hitBreakpoint = s.hitBreakpoint.attempt :=
    step_attempt (.inr rfl) (breakpointApplies_hitBreakpoint s)
  refine ⟨_, hstop, rfl, rfl, hnext.trans ?_⟩
  cases hd : decode s.fetchWindow with
  | error e => exact attempt_error (s := s.hitBreakpoint) hd
  | ok r => exact attempt_of_decode (s := s.hitBreakpoint) hd

/-! ## Halted and Faulted (R160) -/

theorem step_of_halted {s : State} (h : s.runState = .halted) : step s = .next s := by
  simp [step, State.cycle, h]

theorem step_of_faulted {s : State} (h : s.runState = .faulted) : step s = .next s := by
  simp [step, State.cycle, h]

theorem stepReturn_of_halted {s : State} (h : s.runState = .halted) : s.stepReturn = .halted := by
  simp [State.stepReturn, h]

theorem stepReturn_of_faulted {s : State} (h : s.runState = .faulted) : s.stepReturn = .fault s.faultRecord := by
  simp [State.stepReturn, h]

theorem run_of_halted {s : State} (h : s.runState = .halted) (k : Nat) :
    run k s = .next { state := s, outcome := .halted, retired := 0 } := by
  simp [run, h]

theorem run_of_faulted {s : State} (h : s.runState = .faulted) (k : Nat) :
    run k s = .next { state := s, outcome := .fault s.faultRecord, retired := 0 } := by
  simp [run, h]

/-- Settles O18: `step` and `run` look at the run state first. -/
theorem haltedAndFaultedStay : Obligations.HaltedAndFaultedStay := fun _ k =>
  ⟨fun h => ⟨step_of_halted h, stepReturn_of_halted h, run_of_halted h k⟩,
    fun h => ⟨step_of_faulted h, stepReturn_of_faulted h, run_of_faulted h k⟩, rfl⟩

/-! ## The loop of `run` (R162, R164) -/

theorem run_of_canStep {s : State} (hc : s.canStep) (k : Nat) : run k s = runLoop k 0 s := by
  rcases hc with h | h <;> simp [run, h]

/-- A run that ends for its budget began in a core that could step. -/
theorem canStep_of_run_outOfBudget {m n : Nat} {s t : State}
    (h : run m s = .next { state := t, outcome := .outOfBudget, retired := n }) : s.canStep := by
  cases hr : s.runState with
  | idle => exact .inl hr
  | paused => exact .inr hr
  | running => simp [run, hr] at h
  | halted => simp [run_of_halted hr] at h
  | faulted => simp [run_of_faulted hr] at h

section OneIteration

variable {s t : State} (hs : step s = .next t)
include hs

theorem runLoop_of_continues (h : t.stepReturn = .continues) (k n : Nat) :
    runLoop (k + 1) n s = runLoop k (n + 1) t := by
  simp [runLoop, hs, h]

theorem runLoop_of_halted (h : t.stepReturn = .halted) (k n : Nat) :
    runLoop (k + 1) n s = .next { state := t, outcome := .halted, retired := n + 1 } := by
  simp [runLoop, hs, h]

theorem runLoop_of_breakpointHit (h : t.stepReturn = .breakpointHit) (k n : Nat) :
    runLoop (k + 1) n s = .next { state := t, outcome := .breakpointHit, retired := n } := by
  simp [runLoop, hs, h]

theorem runLoop_of_fault {r : Option FaultKind} (h : t.stepReturn = .fault r) (k n : Nat) :
    runLoop (k + 1) n s = .next { state := t, outcome := .fault r, retired := n } := by
  simp [runLoop, hs, h]

end OneIteration

/-- A loop with budget left ends for its budget only by a step that continues. -/
theorem continues_of_runLoop_outOfBudget {m n c : Nat} {s t : State}
    (h : runLoop (m + 1) n s = .next { state := t, outcome := .outOfBudget, retired := c }) :
    ∃ u, step s = .next u ∧ u.stepReturn = .continues := by
  cases hs : step s with
  | fault f => simp [runLoop, hs] at h
  | refused r => simp [runLoop, hs] at h
  | next u =>
    refine ⟨u, rfl, ?_⟩
    cases hu : u.stepReturn with
    | continues => rfl
    | halted => simp [runLoop_of_halted hs hu] at h
    | breakpointHit => simp [runLoop_of_breakpointHit hs hu] at h
    | fault r => simp [runLoop_of_fault hs hu] at h

/-- No step leaves its call in progress. -/
theorem step_ne_running {s t : State} (h : step s = .next t) : t.runState ≠ .running := by
  rcases step_cases h with ⟨hr | hr, rfl⟩ | ⟨-, -, rfl⟩ | ⟨-, -, -, rfl⟩ | ⟨-, -, i, rest, u, -, -, rfl⟩
  · simp [hr]
  · simp [hr]
  · exact nofun
  · exact nofun
  · exact u.finish_ne_running

theorem canStep_of_continues {s t : State} (hs : step s = .next t) (h : t.stepReturn = .continues) : t.canStep := by
  cases hr : t.runState with
  | idle => exact .inl hr
  | paused => exact .inr hr
  | running => exact absurd hr (step_ne_running hs)
  | halted => simp [stepReturn_of_halted hr] at h
  | faulted => simp [stepReturn_of_faulted hr] at h

/-- A core that can step steps alike from Idle and from Paused. -/
theorem step_paused {s : State} (hc : s.canStep) : step { s with runState := .paused } = step s := by
  rw [step_of_canStep hc, step_of_canStep (.inr rfl)]
  rfl

theorem runLoop_paused {s : State} (hc : s.canStep) (k n : Nat) :
    runLoop k n { s with runState := .paused } = runLoop k n s := by
  cases k with
  | zero => rfl
  | succ k => rw [runLoop, runLoop, step_paused hc]

/-- `RunResult.more` on what a run answers. -/
def moreRetired (m : Nat) : Host.Outcome RunResult Fault Refusal → Host.Outcome RunResult Fault Refusal
  | .next r => .next (r.more m)
  | .fault f => .fault f
  | .refused r => .refused r

/-- The loop only adds to the count it starts with. -/
theorem runLoop_add_count (m : Nat) (k n : Nat) (s : State) : runLoop k (m + n) s = moreRetired m (runLoop k n s) := by
  induction k generalizing n s with
  | zero => rfl
  | succ k ih =>
    cases hs : step s with
    | fault f => simp [runLoop, hs, moreRetired]
    | refused r => simp [runLoop, hs, moreRetired]
    | next t =>
      cases ht : t.stepReturn with
      | continues => rw [runLoop_of_continues hs ht, runLoop_of_continues hs ht]; exact ih (n + 1) t
      | halted => rw [runLoop_of_halted hs ht, runLoop_of_halted hs ht]; rfl
      | breakpointHit => rw [runLoop_of_breakpointHit hs ht, runLoop_of_breakpointHit hs ht]; rfl
      | fault r => rw [runLoop_of_fault hs ht, runLoop_of_fault hs ht]; rfl

/-- A loop whose budget is used up has counted every iteration, and a larger budget goes on from where it stopped. -/
theorem runLoop_append {m n c : Nat} {s t : State} (hc : s.canStep)
    (h : runLoop m n s = .next { state := t, outcome := .outOfBudget, retired := c }) :
    c = n + m ∧ t.runState = .paused ∧ ∀ k, runLoop (m + k) n s = runLoop k (n + m) t := by
  induction m generalizing n s with
  | zero =>
    cases h
    exact ⟨rfl, rfl, fun k => by rw [runLoop_paused hc, Nat.zero_add, Nat.add_zero]⟩
  | succ m ih =>
    obtain ⟨u, hs, hu⟩ := continues_of_runLoop_outOfBudget h
    rw [runLoop_of_continues hs hu] at h
    obtain ⟨hcount, ht, hgo⟩ := ih (canStep_of_continues hs hu) h
    have hadd : n + 1 + m = n + (m + 1) := by omega
    refine ⟨hcount.trans hadd, ht, fun k => ?_⟩
    rw [Nat.succ_add, runLoop_of_continues hs hu, hgo, hadd]

/-- A run whose budget is used up goes on from where it stopped. -/
theorem run_append {m n : Nat} {s t : State}
    (h : run m s = .next { state := t, outcome := .outOfBudget, retired := n }) (k : Nat) :
    n = m ∧ run (m + k) s = moreRetired m (run k t) := by
  have hc := canStep_of_run_outOfBudget h
  rw [run_of_canStep hc] at h
  obtain ⟨hcount, ht, hgo⟩ := runLoop_append hc h
  refine ⟨hcount.trans (Nat.zero_add m), ?_⟩
  calc run (m + k) s
      = runLoop k (m + 0) t := by rw [run_of_canStep hc, hgo, Nat.add_comm]
    _ = moreRetired m (run k t) := by rw [runLoop_add_count, run_of_canStep (.inr ht)]

/-- Settles O19: runs compose by `run_append`, and a run of one instruction is one iteration of the loop. -/
theorem runsComposeAndCountRetired : Obligations.RunsComposeAndCountRetired := by
  refine ⟨fun m k s t n h => ?_, fun s t hc hs => ?_⟩
  · obtain ⟨hcount, hrun⟩ := run_append h k
    refine ⟨hcount, ?_⟩
    rw [hrun]
    cases run k t <;> rfl
  · rw [run_of_canStep hc, run_of_canStep hc]
    exact ⟨rfl, fun h => runLoop_of_continues hs h 0 0, fun h => runLoop_of_halted hs h 0 0,
      fun h => runLoop_of_breakpointHit hs h 0 0, fun _ h => runLoop_of_fault hs h 0 0⟩

end Sys2Proof.Machine

/-! SUPPORT. Results and status flags of the arithmetic and logic instructions (41_alu_flags.md R170 to R177; 43_arithmetic.md R220 to R230; 44_logic.md R250 to R254): each primitive meets its rule, and each instruction applies one primitive to its operands. -/

namespace Sys2Proof.Machine

/-! ## The primitives meet their rules (41_alu_flags.md R171 to R174) -/

theorem parity8_iff {n : Nat} (v : BitVec n) : parity8 v = true ↔ EvenParity v := by
  have hrange : List.range 8 = [0, 1, 2, 3, 4, 5, 6, 7] := rfl
  simp only [parity8, EvenParity, hrange, List.countP_cons, List.countP_nil]
  generalize v.getLsbD 0 = b0, v.getLsbD 1 = b1, v.getLsbD 2 = b2, v.getLsbD 3 = b3
  generalize v.getLsbD 4 = b4, v.getLsbD 5 = b5, v.getLsbD 6 = b6, v.getLsbD 7 = b7
  revert b0 b1 b2 b3 b4 b5 b6 b7
  decide

theorem beq_zero_iff_toNat {n : Nat} (r : BitVec n) : (r == 0) = true ↔ r.toNat = 0 := by
  rw [beq_iff_eq, ← BitVec.toNat_inj, BitVec.ofNat_eq_ofNat, BitVec.toNat_ofNat, Nat.zero_mod]

theorem addN_rule {n : Nat} (a b : BitVec n) (c : Bool) : AddRule n a b c (addN a b c).result (addN a b c).status where
  result := BitVec.toNat_ofNat ..
  cf := by
    have hpos : 0 < 2 ^ n := Nat.two_pow_pos n
    simp only [addN, decide_eq_true_eq]
    omega
  zf := beq_zero_iff_toNat _
  sf := rfl
  of := by simp only [addN, Bool.and_eq_true, beq_iff_eq, bne_iff_ne, ne_eq]
  pf := parity8_iff _
  af := by simp only [addN, decide_eq_true_eq]

theorem subN_rule {n : Nat} (a b : BitVec n) (c : Bool) : SubRule n a b c (subN a b c).result (subN a b c).status where
  result := by
    have hb : b.toNat < 2 ^ n := b.isLt
    have hc : c.toNat ≤ 1 := c.toNat_le
    have hcast : ((a.toNat + 2 ^ (n + 1) - b.toNat - c.toNat : Nat) : Int) =
        (a.toNat : Int) - b.toNat - c.toNat + (2 ^ n : Nat) * 2 := by
      rw [Nat.pow_succ]
      omega
    simp only [subN, BitVec.toNat_ofNat, Int.natCast_emod, hcast, Int.add_mul_emod_self_left, Int.natCast_pow,
      Int.cast_ofNat_Int]
  cf := by simp only [subN, decide_eq_true_eq]
  zf := beq_zero_iff_toNat _
  sf := rfl
  of := by simp only [subN, Bool.and_eq_true, bne_iff_ne, ne_eq]
  pf := parity8_iff _
  af := by simp only [subN, decide_eq_true_eq]

theorem logicN_rule {n : Nat} (r : BitVec n) : LogicRule n r (logicN r).status where
  cf := rfl
  of := rfl
  af := rfl
  zf := beq_zero_iff_toNat r
  sf := rfl
  pf := parity8_iff r

/-! ## OF and CF tell the range (41_alu_flags.md R172, R173) -/

/-- The sum, or the sum less `2 ^ n` when it does not fit. -/
theorem AddRule.toNat_cases {n : Nat} {a b r : BitVec n} {c : Bool} {x : Status} (h : AddRule n a b c r x) :
    r.toNat = a.toNat + b.toNat + c.toNat ∨ r.toNat + 2 ^ n = a.toNat + b.toNat + c.toNat := by
  have ha : a.toNat < 2 ^ n := a.isLt
  have hb : b.toNat < 2 ^ n := b.isLt
  have hc : c.toNat ≤ 1 := c.toNat_le
  have hr := h.result
  by_cases hfit : a.toNat + b.toNat + c.toNat < 2 ^ n
  · exact .inl (hr.trans (Nat.mod_eq_of_lt hfit))
  · rw [Nat.mod_eq_sub_mod (by omega), Nat.mod_eq_of_lt (by omega)] at hr
    exact .inr (by omega)

/-- The difference, or the difference plus `2 ^ n` when it is negative. -/
theorem SubRule.toNat_cases {n : Nat} {a b r : BitVec n} {c : Bool} {x : Status} (h : SubRule n a b c r x) :
    a.toNat = r.toNat + b.toNat + c.toNat ∨ a.toNat + 2 ^ n = r.toNat + b.toNat + c.toNat := by
  have ha : a.toNat < 2 ^ n := a.isLt
  have hb : b.toNat < 2 ^ n := b.isLt
  have hc : c.toNat ≤ 1 := c.toNat_le
  have hr := h.result
  have hpow : (2 : Int) ^ n = (2 ^ n : Nat) := (Int.natCast_pow 2 n).symm
  rw [hpow] at hr
  by_cases hfit : b.toNat + c.toNat ≤ a.toNat
  · rw [Int.emod_eq_of_lt (by omega) (by omega)] at hr
    exact .inl (by omega)
  · rw [← Int.add_emod_right, Int.emod_eq_of_lt (by omega) (by omega)] at hr
    exact .inr (by omega)

/-- The signed value of a word is its unsigned value, or that less `2 ^ n` when the top bit is set. -/
theorem toInt_cases {m : Nat} (x : BitVec (m + 1)) :
    (x.toInt = x.toNat ∧ x.toNat < 2 ^ m) ∨
      (x.toInt + (2 ^ m : Nat) * 2 = x.toNat ∧ 2 ^ m ≤ x.toNat ∧ x.toNat < 2 ^ m * 2) := by
  have hx : x.toNat < 2 ^ m * 2 := x.isLt
  rw [BitVec.toInt_eq_toNat_cond, Nat.pow_succ]
  split <;> omega

/-- OF of an addition tells that the signed sum does not fit: the operands then have one sign and the result the other. -/
theorem AddRule.of_iff_range {n : Nat} (hn : 0 < n) {a b r : BitVec n} {c : Bool} {x : Status} (h : AddRule n a b c r x) :
    x.of = true ↔ ¬(-2 ^ (n - 1) ≤ a.toInt + b.toInt + c.toNat ∧ a.toInt + b.toInt + c.toNat < 2 ^ (n - 1)) := by
  obtain ⟨m, rfl⟩ := Nat.exists_eq_succ_of_ne_zero (Nat.ne_of_gt hn)
  have hpow : ((2 ^ m : Nat) : Int) = 2 ^ m := Int.natCast_pow 2 m
  have hc : c.toNat ≤ 1 := c.toNat_le
  have hsum := h.toNat_cases
  have ha := toInt_cases a
  have hb := toInt_cases b
  have hr := toInt_cases r
  rw [h.of]
  simp only [BitVec.msb_eq_toInt, ne_eq, decide_eq_decide, Nat.succ_eq_add_one, Nat.add_sub_cancel, Nat.pow_succ] at *
  omega

/-- OF of a subtraction tells that the signed difference does not fit: the operands then have two signs and the result that of the second. -/
theorem SubRule.of_iff_range {n : Nat} (hn : 0 < n) {a b r : BitVec n} {c : Bool} {x : Status} (h : SubRule n a b c r x) :
    x.of = true ↔ ¬(-2 ^ (n - 1) ≤ a.toInt - b.toInt - c.toNat ∧ a.toInt - b.toInt - c.toNat < 2 ^ (n - 1)) := by
  obtain ⟨m, rfl⟩ := Nat.exists_eq_succ_of_ne_zero (Nat.ne_of_gt hn)
  have hpow : ((2 ^ m : Nat) : Int) = 2 ^ m := Int.natCast_pow 2 m
  have hc : c.toNat ≤ 1 := c.toNat_le
  have hdiff := h.toNat_cases
  have ha := toInt_cases a
  have hb := toInt_cases b
  have hr := toInt_cases r
  rw [h.of]
  simp only [BitVec.msb_eq_toInt, ne_eq, decide_eq_decide, Nat.succ_eq_add_one, Nat.add_sub_cancel, Nat.pow_succ] at *
  omega

/-- Settles O29: OF by the rules' sign clauses, CF by their carry clauses. -/
theorem overflowFlagsTellTheRange : Obligations.OverflowFlagsTellTheRange := by
  intro n a b c hn
  have hadd := addN_rule a b c
  have hsub := subN_rule a b c
  refine ⟨hadd.of_iff_range hn, ?_, hsub.of_iff_range hn, ?_⟩
  · rw [hadd.cf]
    omega
  · rw [hsub.cf]
    omega

/-! ## ADD, ADC, SUB, SBB, AND, OR, XOR (43_arithmetic.md R220 to R224; 44_logic.md R250 to R252) -/

/-- The nine forms of each ALU operation. -/
def aluForms : AluOp → AluForms
  | .add => addForms
  | .or => orForms
  | .adc => adcForms
  | .sbb => sbbForms
  | .and => andForms
  | .sub => subForms
  | .xor => xorForms
  | .cmp => cmpForms

/-- The instruction is the ALU operation on its operands, and its destination is no FLAGS register. -/
def RunsAlu (op : AluOp) : BinaryClaim := fun _ i dst src =>
  ∀ s : State, (dst s).plain ∧ exec i s = .next (s.alu op (dst s) (src s))

theorem AluForms.All.imp {f : AluForms} {P Q : BinaryClaim} (h : f.All P)
    (hPQ : ∀ n i dst src, P n i dst src → Q n i dst src) : f.All Q := by
  obtain ⟨h1, h2, h3, h4, h5, h6, h7, h8, h9⟩ := h
  exact ⟨fun d r => hPQ _ _ _ _ (h1 d r), fun d r => hPQ _ _ _ _ (h2 d r), fun d r => hPQ _ _ _ _ (h3 d r),
    fun d r => hPQ _ _ _ _ (h4 d r), fun v => hPQ _ _ _ _ (h5 v), fun v => hPQ _ _ _ _ (h6 v),
    fun d v => hPQ _ _ _ _ (h7 d v), fun d v => hPQ _ _ _ _ (h8 d v), fun d v => hPQ _ _ _ _ (h9 d v)⟩

theorem aluForms_run (op : AluOp) : (aluForms op).All (RunsAlu op) := by
  cases op <;>
    exact ⟨fun d _ s => ⟨s.place8_plain d, rfl⟩, fun d _ s => ⟨s.place16_plain d, rfl⟩,
      fun _ _ _ => ⟨trivial, rfl⟩, fun d _ _ => ⟨Place.reg16_plain d, rfl⟩,
      fun _ _ => ⟨placeAl_plain, rfl⟩, fun _ _ => ⟨placeAx_plain, rfl⟩,
      fun d _ s => ⟨s.place8_plain d, rfl⟩, fun d _ s => ⟨s.place16_plain d, rfl⟩,
      fun d _ s => ⟨s.place16_plain d, rfl⟩⟩

/-- An ALU operation that writes its result meets, in all nine forms, every rule its outcome meets. -/
theorem aluForms_writesResult (op : AluOp) (hop : aluWrites op = true) (rule : AluRule)
    (hrule : ∀ (n : Nat) (a b : BitVec n) (c : Bool), rule n a b c (aluOut op a b c).result (aluOut op a b c).status) :
    (aluForms op).All (WritesResult rule) :=
  (aluForms_run op).imp fun n _ dst src hrun s => by
    obtain ⟨hplain, hexec⟩ := hrun s
    exact ⟨_, _, _, hexec, hrule n _ _ _, alu_spec s op hop (dst s) hplain (src s)⟩

/-- Settles O24: the outcome of both operations is that of `addN`. -/
theorem addAndAdcResult : Obligations.AddAndAdcResult :=
  ⟨aluForms_writesResult .add rfl _ fun _ a b _ => addN_rule a b false,
    aluForms_writesResult .adc rfl _ fun _ a b c => addN_rule a b c⟩

/-- Settles O25: the outcome of both operations is that of `subN`. -/
theorem subAndSbbResult : Obligations.SubAndSbbResult :=
  ⟨aluForms_writesResult .sub rfl _ fun _ a b _ => subN_rule a b false,
    aluForms_writesResult .sbb rfl _ fun _ a b c => subN_rule a b c⟩

/-- Settles O31: the outcome of each operation is `logicN` of the bitwise result. -/
theorem logicResult : Obligations.LogicResult :=
  ⟨aluForms_writesResult .and rfl _ fun _ a b _ => ⟨fun _ => BitVec.getLsbD_and, logicN_rule (a &&& b)⟩,
    aluForms_writesResult .or rfl _ fun _ a b _ => ⟨fun _ => BitVec.getLsbD_or, logicN_rule (a ||| b)⟩,
    aluForms_writesResult .xor rfl _ fun _ a b _ => ⟨fun _ => BitVec.getLsbD_xor, logicN_rule (a ^^^ b)⟩⟩

/-! ## INC, DEC and NEG (43_arithmetic.md R226 to R230) -/

/-- An instruction that writes an outcome of the rule and keeps CF meets the claim of INC and DEC. -/
theorem stepsByOne_of_exec {rule : AluRule} {n : Nat} {i : Instr} {p : State → Place n} (out : BitVec n → AluOut n)
    (hrule : ∀ a, rule n a 1 false (out a).result (out a).status) (hplain : ∀ s, (p s).plain)
    (hexec : ∀ s, exec i s = .next (((s.noteRead (p s)).writePlace (p s) (out (s.valueOf (p s))).result).setStatusKeepCf
      (out (s.valueOf (p s))).status)) :
    StepsByOne rule n i p := fun s =>
  ⟨_, _, _, hexec s, hrule _, keepCf_spec s (p s) (hplain s) _⟩

theorem inc_stepsByOne {n : Nat} {i : Instr} {p : State → Place n} (hplain : ∀ s, (p s).plain)
    (hexec : ∀ s, exec i s = .next (s.inc (p s))) : StepsByOne AddRule n i p :=
  stepsByOne_of_exec incN (fun a => addN_rule a 1 false) hplain hexec

theorem dec_stepsByOne {n : Nat} {i : Instr} {p : State → Place n} (hplain : ∀ s, (p s).plain)
    (hexec : ∀ s, exec i s = .next (s.dec (p s))) : StepsByOne SubRule n i p :=
  stepsByOne_of_exec decN (fun a => subN_rule a 1 false) hplain hexec

/-- Settles O27: INC is `addN` and DEC is `subN` with operand 1, and `setStatusKeepCf` keeps CF. -/
theorem incAndDecKeepCarry : Obligations.IncAndDecKeepCarry :=
  ⟨fun r => inc_stepsByOne (fun _ => Place.reg16_plain r) fun _ => rfl,
    fun o => inc_stepsByOne (fun s => s.place8_plain o) fun _ => rfl,
    fun o => inc_stepsByOne (fun s => s.place16_plain o) fun _ => rfl,
    fun r => dec_stepsByOne (fun _ => Place.reg16_plain r) fun _ => rfl,
    fun o => dec_stepsByOne (fun s => s.place8_plain o) fun _ => rfl,
    fun o => dec_stepsByOne (fun s => s.place16_plain o) fun _ => rfl⟩

/-- Zero less `a` does not fit exactly when `a` is the most negative number. -/
theorem SubRule.neg_of_iff {n : Nat} (hn : 0 < n) {a r : BitVec n} {x : Status} (h : SubRule n 0 a false r x) :
    x.of = true ↔ a.toNat = 2 ^ (n - 1) := by
  rw [h.of_iff_range hn]
  obtain ⟨m, rfl⟩ := Nat.exists_eq_succ_of_ne_zero (Nat.ne_of_gt hn)
  have hpow : ((2 ^ m : Nat) : Int) = 2 ^ m := Int.natCast_pow 2 m
  have hpos : 0 < 2 ^ m := Nat.two_pow_pos m
  have ha := toInt_cases a
  simp only [BitVec.ofNat_eq_ofNat, BitVec.toInt_zero, Bool.toNat_false, Nat.succ_eq_add_one, Nat.add_sub_cancel]
  omega

/-- An instruction that is NEG of a place meets the claim of NEG. -/
theorem negates_of_exec {n : Nat} (hn : 0 < n) {i : Instr} {p : State → Place n} (hplain : ∀ s, (p s).plain)
    (hexec : ∀ s, exec i s = .next (s.neg (p s))) : Negates n i p := by
  intro s
  have hrule := subN_rule 0 (s.valueOf (p s)) false
  have hzero : (0 : BitVec n).toNat = 0 := Nat.zero_mod _
  refine ⟨_, _, _, hexec s, hrule, hrule.cf.trans ?_, hrule.neg_of_iff hn, hrule.af.trans ?_,
    neg_spec s (p s) (hplain s)⟩
  · rw [hzero]
    exact Nat.pos_iff_ne_zero
  · rw [hzero]
    exact Nat.pos_iff_ne_zero

/-- Settles O28: NEG is `subN` from zero. -/
theorem negSubtractsFromZero : Obligations.NegSubtractsFromZero :=
  ⟨fun o => negates_of_exec (by decide) (fun s => s.place8_plain o) fun _ => rfl,
    fun o => negates_of_exec (by decide) (fun s => s.place16_plain o) fun _ => rfl⟩

/-! ## TEST and NOT (44_logic.md R253, R254) -/

/-- An instruction that is TEST of its operands meets the rule of TEST. -/
theorem test_writesFlagsOnly {n : Nat} {i : Instr} {dst : State → Place n} {src : State → Source n}
    (hexec : ∀ s, exec i s = .next (s.test (dst s) (src s))) : WritesFlagsOnly testRule n i dst src := fun s =>
  ⟨_, _, _, hexec s, ⟨fun _ => BitVec.getLsbD_and, logicN_rule _⟩, test_spec s (dst s) (src s)⟩

/-- An instruction that is NOT of a place complements it. -/
theorem not_complements {n : Nat} {i : Instr} {p : State → Place n} (hplain : ∀ s, (p s).plain)
    (hexec : ∀ s, exec i s = .next (s.not (p s))) : Complements n i p := by
  intro s
  obtain ⟨hvalue, hkept, htrace⟩ := not_spec s (p s) (hplain s)
  refine ⟨_, hexec s, fun k hk => ?_, hkept, ?_⟩
  · rw [hvalue, BitVec.getLsbD_not, decide_eq_true hk, Bool.true_and]
  · rw [hvalue, htrace]

/-- Settles O32: the forms of TEST by `test_spec`, those of NOT by `not_spec`. -/
theorem testAndNotResult : Obligations.TestAndNotResult :=
  ⟨fun _ _ => test_writesFlagsOnly fun _ => rfl, fun _ _ => test_writesFlagsOnly fun _ => rfl,
    fun _ => test_writesFlagsOnly fun _ => rfl, fun _ => test_writesFlagsOnly fun _ => rfl,
    fun _ _ => test_writesFlagsOnly fun _ => rfl, fun _ _ => test_writesFlagsOnly fun _ => rfl,
    fun o => not_complements (fun s => s.place8_plain o) fun _ => rfl,
    fun o => not_complements (fun s => s.place16_plain o) fun _ => rfl⟩

end Sys2Proof.Machine

/-! SUPPORT. MOV, and the balance of the stack (42_data_transfer.md R190 to R204; 48_control_transfer.md R370 to R374; 20_memory.md R70, R71): a word pushed is the word on top, a second PUSH leaves it underneath, and POP and the returns take off what was pushed. -/

namespace Sys2Proof.Machine

/-! ## MOV (42_data_transfer.md R190 to R196) -/

/-- An instruction that is `move` to places, none of them FLAGS, copies its source. -/
theorem copies_of_exec {n : Nat} {i : Instr} {dst : State → Place n} {src : State → Source n}
    (hplain : ∀ s, (dst s).plain) (hexec : ∀ s, exec i s = .next (s.move (dst s) (src s))) : Copies n i dst src :=
  fun s => ⟨_, hexec s, move_spec s (dst s) (hplain s) (src s)⟩

/-- Settles O20: every form of MOV is `move`, which `move_spec` describes, and no form has FLAGS as its destination. -/
theorem movCopiesSource : Obligations.MovCopiesSource :=
  ⟨fun d _ => copies_of_exec (fun s => s.place8_plain d) fun _ => rfl,
    fun d _ => copies_of_exec (fun s => s.place16_plain d) fun _ => rfl,
    fun d _ => copies_of_exec (fun _ => Place.reg8_plain d) fun _ => rfl,
    fun d _ => copies_of_exec (fun _ => Place.reg16_plain d) fun _ => rfl,
    fun d _ => copies_of_exec (fun _ => Place.reg8_plain d) fun _ => rfl,
    fun d _ => copies_of_exec (fun _ => Place.reg16_plain d) fun _ => rfl,
    fun _ => copies_of_exec (fun _ => placeAl_plain) fun _ => rfl,
    fun _ => copies_of_exec (fun _ => placeAx_plain) fun _ => rfl,
    fun off => copies_of_exec (fun s => Place.byteAt_plain (s.moffsAddr off)) fun _ => rfl,
    fun off => copies_of_exec (fun s => Place.wordAt_plain (s.moffsAddr off)) fun _ => rfl,
    fun d => copies_of_exec (fun s => s.place16_plain d) fun _ => rfl,
    fun d => copies_of_exec (fun s => s.place16_plain d) fun _ => rfl,
    fun d => copies_of_exec (fun s => s.place16_plain d) fun _ => rfl,
    fun d => copies_of_exec (fun s => s.place16_plain d) fun _ => rfl,
    fun _ => copies_of_exec (fun _ => Place.sreg_plain .es) fun _ => rfl,
    fun _ => copies_of_exec (fun _ => Place.sreg_plain .ss) fun _ => rfl,
    fun _ => copies_of_exec (fun _ => Place.sreg_plain .ds) fun _ => rfl⟩

/-! ## PUSH, then POP (42_data_transfer.md R204) -/

/-- PUSH, then POP to a place that is not SP: SP is as before, and the place holds the word pushed. -/
theorem Pushes.pop {i j : Instr} {src dst : State → Place 16} (hpush : Pushes i src) (hpop : Pops j dst)
    (hsp : ∀ t, dst t ≠ .reg .sp) (s : State) :
    ∃ t u, exec i s = .next t ∧ exec j t = .next u ∧ u.reg .sp = s.reg .sp ∧
      u.valueOf (dst t) = s.valueOf (src s) := by
  obtain ⟨t, hi, htsp, htop, hkept, -⟩ := hpush s
  obtain ⟨u, hj, hvalue, husp, -, -⟩ := hpop t
  have hss : t.reg .ss = s.reg .ss := hkept.regs .ss (by decide) (by simp) (by simp)
  refine ⟨t, u, hi, hj, ?_, ?_⟩
  · rw [husp (hsp t), htsp, BitVec.sub_add_cancel]
  · rw [hvalue, hss, htsp, htop]

theorem pushes_of_mem (r : Reg16) (o : Rm16) :
    ∀ i ∈ [Instr.pushR16 r, .pushEs, .pushCs, .pushSs, .pushDs, .pushRm16 o], ∃ src, Pushes i src := by
  obtain ⟨hr16, hes, hcs, hss, hds, hrm16⟩ := pushStoresAtNewTop
  simp only [List.forall_mem_cons]
  exact ⟨⟨_, hr16 r⟩, ⟨_, hes⟩, ⟨_, hcs⟩, ⟨_, hss⟩, ⟨_, hds⟩, ⟨_, hrm16 o⟩, List.forall_mem_nil _⟩

/-- A register other than SP has another place. -/
theorem Place.reg16_ne_sp {q : Reg16} (h : q ≠ .sp) : Place.reg (Reg16.id q) ≠ .reg .sp := fun e =>
  h (Reg16.id_inj.1 (Place.reg.inj e))

theorem State.place16_ne_sp {p : Rm16} (h : p ≠ .reg .sp) (s : State) : s.place16 p ≠ .reg .sp := by
  cases p with
  | reg q => exact Place.reg16_ne_sp fun e => h (e ▸ rfl)
  | mem m => exact nofun

theorem pops_of_mem {q : Reg16} {p : Rm16} (hq : q ≠ .sp) (hp : p ≠ .reg .sp) :
    ∀ j ∈ [Instr.popR16 q, .popEs, .popSs, .popDs, .popRm16 p],
      ∃ dst : State → Place 16, Pops j dst ∧ ∀ t, dst t ≠ .reg .sp := by
  obtain ⟨hr16, hes, hss, hds, hrm16⟩ := popLoadsFromTop
  simp only [List.forall_mem_cons]
  exact ⟨⟨_, hr16 q, fun _ => Place.reg16_ne_sp hq⟩, ⟨_, hes, fun _ => nofun⟩, ⟨_, hss, fun _ => nofun⟩,
    ⟨_, hds, fun _ => nofun⟩, ⟨_, hrm16 p, State.place16_ne_sp hp⟩,
    List.forall_mem_nil _⟩

/-! ## The stack after Push16 and Pop16 (20_memory.md R70, R71) -/

theorem State.reg_sp_push16 (s : State) (v : Word) : (s.push16 v).reg .sp = s.reg .sp - 2 := by
  simp [State.push16_eq]

theorem State.reg_push16_of_ne (s : State) (v : Word) {r : RegId} (h : r ≠ .sp) : (s.push16 v).reg r = s.reg r := by
  simp [State.push16_eq, h]

theorem State.reg_popped_of_ne (s : State) {r : RegId} (h : r ≠ .sp) : s.popped.reg r = s.reg r := by
  simp [State.popped, h]

theorem State.wordAt_popped (s : State) (a : PAddr) : s.popped.wordAt a = s.wordAt a := rfl

theorem State.stackTop_push16 (s : State) (v : Word) :
    (s.push16 v).stackTop = phys (s.reg .ss) (s.reg .sp - 2) := by
  rw [State.stackTop, State.reg_push16_of_ne s v (by decide), State.reg_sp_push16]

/-- Push16 puts its word on top. -/
theorem State.popValue_push16 (s : State) (v : Word) : (s.push16 v).popValue = v := by
  rw [State.popValue, State.stackTop_push16, State.push16_eq, State.wordAt_storeWord]

/-- The two bytes at an offset and the two bytes two offsets below share none, even where the offset wraps in its segment. -/
theorem phys_not_mem_bytes_below (seg off : Word) :
    phys seg off ∉ [phys seg (off - 2), phys seg (off - 2) + 1] ∧
      phys seg off + 1 ∉ [phys seg (off - 2), phys seg (off - 2) + 1] := by
  have hoff : off.toNat < 2 ^ 16 := off.isLt
  simp only [List.mem_cons, List.not_mem_nil, or_false, not_or, ← BitVec.toNat_inj, BitVec.toNat_add, toNat_phys,
    BitVec.toNat_sub, BitVec.toNat_ofNat, BitVec.ofNat_eq_ofNat]
  omega

/-- Push16 leaves the word that was on top underneath the new one. -/
theorem State.wordAt_push16_stackTop (s : State) (v : Word) : (s.push16 v).wordAt s.stackTop = s.popValue :=
  have hbelow := phys_not_mem_bytes_below (s.reg .ss) (s.reg .sp)
  State.wordAt_kept (kept_push16 s v).bytes hbelow.1 hbelow.2

/-! ## CALL, then RET (48_control_transfer.md R370 to R374) -/

theorem returnNear_spec (v : State) :
    v.returnNear.reg .sp = v.reg .sp + 2 ∧ v.returnNear.reg .ip = v.wordAt (phys (v.reg .ss) (v.reg .sp)) := by
  refine ⟨?_, ?_⟩
  · simp [State.returnNear, State.reg_sp_popped]
  · simp [State.returnNear, State.popValue, State.stackTop]

theorem returnFar_spec (v : State) :
    v.returnFar.reg .sp = v.reg .sp + 2 + 2 ∧ v.returnFar.reg .ip = v.wordAt (phys (v.reg .ss) (v.reg .sp)) ∧
      v.returnFar.reg .cs = v.wordAt (phys (v.reg .ss) (v.reg .sp + 2)) := by
  refine ⟨?_, ?_, ?_⟩
  · simp [State.returnFar, State.reg_sp_popped]
  · simp [State.returnFar, State.popValue, State.stackTop]
  · simp [State.returnFar, State.popValue, State.stackTop, State.reg_sp_popped, State.reg_popped_of_ne,
      State.wordAt_popped]

/-- Near CALL: SP lowered by 2, the return address on top. -/
theorem callRel16_spec (s : State) (disp : Word) :
    let t := (s.push16 (s.reg .ip)).jumpRel disp
    t.reg .sp = s.reg .sp - 2 ∧ t.wordAt (phys (t.reg .ss) (t.reg .sp)) = s.reg .ip :=
  ⟨by simp [State.jumpRel, State.reg_sp_push16], s.popValue_push16 _⟩

/-- Far CALL: SP lowered by 4, the return offset on top and CS underneath. -/
theorem callFar_spec (s : State) (off seg : Word) :
    let t := ((s.push16 (s.reg .cs)).push16 (s.reg .ip)).jumpFar off seg
    t.reg .sp = s.reg .sp - 2 - 2 ∧ t.wordAt (phys (t.reg .ss) (t.reg .sp)) = s.reg .ip ∧
      t.wordAt (phys (t.reg .ss) (t.reg .sp + 2)) = s.reg .cs := by
  intro t
  have hsp : t.reg .sp = s.reg .sp - 2 - 2 := by simp [t, State.jumpFar, State.reg_sp_push16]
  have hunder : phys (t.reg .ss) (t.reg .sp + 2) = (s.push16 (s.reg .cs)).stackTop := by
    rw [hsp, BitVec.sub_add_cancel, State.stackTop_push16]
    simp [t, State.jumpFar, State.reg_push16_of_ne]
  refine ⟨hsp, State.popValue_push16 _ _, ?_⟩
  calc t.wordAt (phys (t.reg .ss) (t.reg .sp + 2))
      = ((s.push16 (s.reg .cs)).push16 (s.reg .ip)).wordAt (s.push16 (s.reg .cs)).stackTop := by rw [hunder]; rfl
    _ = (s.push16 (s.reg .cs)).popValue := State.wordAt_push16_stackTop _ _
    _ = s.reg .cs := State.popValue_push16 _ _

/-- Settles O23: POP and the returns raise SP by what PUSH and the calls lowered it, and what they read is the word pushed. -/
theorem stackIsBalanced : Obligations.StackIsBalanced := by
  refine ⟨fun r q o p s hq hp i hi j hj => ?pushPop, fun r q s hq => ?registers, fun disp s => ⟨_, rfl, ?near⟩,
    fun off seg s => ⟨_, rfl, ?far⟩⟩
  case pushPop =>
    obtain ⟨src, hpush⟩ := pushes_of_mem r o i hi
    obtain ⟨dst, hpop, hne⟩ := pops_of_mem hq hp j hj
    obtain ⟨t, u, hexec, hexec', hsp, -⟩ := hpush.pop hpop hne s
    exact ⟨t, u, hexec, hexec', hsp⟩
  case registers =>
    exact (pushStoresAtNewTop.1 r).pop (popLoadsFromTop.1 q) (fun _ => Place.reg16_ne_sp hq) s
  case near =>
    intro v hsp hss htop
    obtain ⟨hcallSp, hcallTop⟩ := callRel16_spec s disp
    obtain ⟨hretSp, hretIp⟩ := returnNear_spec v
    refine ⟨_, rfl, ?_, ?_⟩
    · rw [hretSp, hsp, hcallSp, BitVec.sub_add_cancel]
    · rw [hretIp, hss, hsp, htop, hcallTop]
  case far =>
    intro v hsp hss htop hunder
    obtain ⟨hcallSp, hcallTop, hcallUnder⟩ := callFar_spec s off seg
    obtain ⟨hretSp, hretIp, hretCs⟩ := returnFar_spec v
    refine ⟨_, rfl, ?_, ?_, ?_⟩
    · rw [hretSp, hsp, hcallSp, BitVec.sub_add_cancel, BitVec.sub_add_cancel]
    · rw [hretIp, hss, hsp, htop, hcallTop]
    · rw [hretCs, hss, hsp, hunder, hcallUnder]

end Sys2Proof.Machine

/-! SUPPORT. CMP (43_arithmetic.md R225): SUB with the result discarded. -/

namespace Sys2Proof.Machine

/-- An instruction that is CMP of its operands meets the rule of SUB and writes flags only. -/
theorem cmp_writesFlagsOnly {n : Nat} {i : Instr} {dst : State → Place n} {src : State → Source n}
    (hexec : ∀ s, exec i s = .next (s.alu .cmp (dst s) (src s))) :
    WritesFlagsOnly (fun n a b _ r x => SubRule n a b false r x) n i dst src := fun s =>
  ⟨_, _, _, hexec s, subN_rule _ _ _, cmp_spec s (dst s) (src s)⟩

/-- Settles O26: every form runs the ALU's CMP, whose flags are those of `subN` and whose result is discarded. -/
theorem cmpWritesFlagsOnly : Obligations.CmpWritesFlagsOnly :=
  (aluForms_run .cmp).imp fun _ _ _ _ hrun => cmp_writesFlagsOnly fun s => (hrun s).2

end Sys2Proof.Machine

/-! SUPPORT. Shifts and rotates (45_shift_rotate.md R270 to R277): `shiftSteps` takes `count` one-bit steps, and each operation has a closed form for their outcome. One step is the closed form at 1, and the closed forms add up over the counts. -/

namespace Sys2Proof.Machine

/-! ## Rotations add up -/

theorem rotateLeft_zero {n : Nat} (x : BitVec n) : x.rotateLeft 0 = x :=
  BitVec.eq_of_getMsbD_eq fun i hi => by
    rw [BitVec.getMsbD_rotateLeft, decide_eq_true hi, Bool.true_and, Nat.zero_add, Nat.mod_eq_of_lt hi]

theorem rotateRight_zero {n : Nat} (x : BitVec n) : x.rotateRight 0 = x := by
  simp [BitVec.rotateRight_def]

theorem rotateLeft_rotateLeft {n : Nat} (x : BitVec n) (j k : Nat) : (x.rotateLeft j).rotateLeft k = x.rotateLeft (j + k) := by
  refine BitVec.eq_of_getMsbD_eq fun i hi => ?_
  have hmod : (k + i) % n < n := Nat.mod_lt _ (by omega)
  simp only [BitVec.getMsbD_rotateLeft, hmod, decide_true, Bool.true_and, Nat.add_mod_mod, Nat.add_assoc]

theorem getLsbD_rotateRight_of_lt_width {n : Nat} (x : BitVec n) (k : Nat) {i : Nat} (hi : i < n) :
    (x.rotateRight k).getLsbD i = x.getLsbD ((k + i) % n) := by
  have hk : k % n < n := Nat.mod_lt _ (by omega)
  rw [BitVec.getLsbD_rotateRight, ← Nat.mod_add_mod]
  generalize k % n = r at hk
  by_cases hwrap : i < n - r
  · rw [Nat.mod_eq_of_lt (by omega), decide_eq_true hwrap, cond_true]
  · have hsub : i - (n - r) = r + i - n := by omega
    rw [Nat.mod_eq_sub_mod (by omega), Nat.mod_eq_of_lt (by omega), decide_eq_false hwrap, cond_false, decide_eq_true hi,
      Bool.true_and, hsub]

theorem rotateRight_rotateRight {n : Nat} (x : BitVec n) (j k : Nat) :
    (x.rotateRight j).rotateRight k = x.rotateRight (j + k) := by
  refine BitVec.eq_of_getLsbD_eq fun i hi => ?_
  have hmod : (k + i) % n < n := Nat.mod_lt _ (by omega)
  rw [getLsbD_rotateRight_of_lt_width _ _ hi, getLsbD_rotateRight_of_lt_width _ _ hmod,
    getLsbD_rotateRight_of_lt_width _ _ hi, Nat.add_mod_mod, Nat.add_assoc]

/-! ## One step, bit by bit -/

theorem getLsbD_rotateLeft_one {n : Nat} (x : BitVec n) {i : Nat} (hi : i < n) :
    (x.rotateLeft 1).getLsbD i = if i = 0 then x.msb else x.getLsbD (i - 1) := by
  rw [BitVec.msb_eq_getLsbD_last]
  rcases Nat.lt_or_ge 1 n with hn | hn
  · rw [BitVec.getLsbD_rotateLeft, Nat.mod_eq_of_lt hn]
    by_cases h0 : i = 0
    · simp [h0]
    · have h1 : ¬ i < 1 := by omega
      simp [h0, h1, hi]
  · obtain ⟨rfl, rfl⟩ : n = 1 ∧ i = 0 := by omega
    simp

theorem getLsbD_rotateRight_one {n : Nat} (x : BitVec n) {i : Nat} (hi : i < n) :
    (x.rotateRight 1).getLsbD i = if i = n - 1 then x.getLsbD 0 else x.getLsbD (i + 1) := by
  rw [getLsbD_rotateRight_of_lt_width x 1 hi]
  split
  · rw [show 1 + i = n by omega, Nat.mod_self]
  · rw [Nat.mod_eq_of_lt (by omega), Nat.add_comm]

theorem msb_rotateRight_one {n : Nat} (hn : 0 < n) (x : BitVec n) : (x.rotateRight 1).msb = x.getLsbD 0 := by
  rw [BitVec.msb_eq_getLsbD_last, getLsbD_rotateRight_one x (by omega), if_pos rfl]

/-- One bit as a word: the low bit. -/
theorem getLsbD_ofNat_toNat {n : Nat} (b : Bool) {i : Nat} (hi : i < n) :
    (BitVec.ofNat n b.toNat).getLsbD i = (decide (i = 0) && b) := by
  rw [BitVec.getLsbD_ofNat, Nat.testBit_bool_toNat, decide_eq_true hi, Bool.true_and]

/-- A bit `b` shifted in at the bottom. -/
theorem getLsbD_shiftLeft_one_or {n : Nat} (x : BitVec n) (b : Bool) {i : Nat} (hi : i < n) :
    (x <<< 1 ||| BitVec.ofNat n b.toNat).getLsbD i = if i = 0 then b else x.getLsbD (i - 1) := by
  rw [BitVec.getLsbD_or, BitVec.getLsbD_shiftLeft, getLsbD_ofNat_toNat b hi]
  by_cases h0 : i = 0
  · simp [h0]
  · have h1 : ¬ i < 1 := by omega
    simp [h0, h1, hi]

/-- A bit `b` shifted in at the top. -/
theorem getLsbD_ushiftRight_one_or {n : Nat} (x : BitVec n) (b : Bool) {i : Nat} (hi : i < n) :
    (x >>> 1 ||| BitVec.ofNat n b.toNat <<< (n - 1)).getLsbD i = if i = n - 1 then b else x.getLsbD (i + 1) := by
  have hsub : i - (n - 1) < n := by omega
  rw [BitVec.getLsbD_or, BitVec.getLsbD_ushiftRight, BitVec.getLsbD_shiftLeft, getLsbD_ofNat_toNat b hsub, Nat.add_comm]
  by_cases htop : i = n - 1
  · obtain rfl : n = i + 1 := by omega
    simp
  · have hlow : i < n - 1 := by omega
    simp [htop, hlow]

/-- The top bit kept while the others move down. -/
theorem ushiftRight_one_or_and_top {n : Nat} (x : BitVec n) :
    x >>> 1 ||| (x &&& BitVec.ofNat n 1 <<< (n - 1)) = x.sshiftRight 1 := by
  refine BitVec.eq_of_getLsbD_eq fun i hi => ?_
  rw [BitVec.getLsbD_sshiftRight, BitVec.msb_eq_getLsbD_last]
  by_cases htop : i = n - 1
  · have hout : ¬ 1 + i < n := by omega
    have hzero : x.getLsbD (1 + i) = false := BitVec.getLsbD_of_ge x _ (by omega)
    simp [hi, hout, hzero, ← htop]
  · have hlow : i < n - 1 := by omega
    have hin : 1 + i < n := by omega
    simp [hi, hlow, hin]

/-! ## One step is the closed form at a count of 1 -/

theorem shiftStep_rol {n : Nat} (x : BitVec n) (c : Bool) : shiftStep .rol x c = (x.rotateLeft 1, x.msb) :=
  Prod.ext (BitVec.eq_of_getLsbD_eq fun _ hi => by
    simp only [shiftStep, getLsbD_shiftLeft_one_or x _ hi, getLsbD_rotateLeft_one x hi]) rfl

theorem shiftStep_ror {n : Nat} (x : BitVec n) (c : Bool) : shiftStep .ror x c = (x.rotateRight 1, x.getLsbD 0) :=
  Prod.ext (BitVec.eq_of_getLsbD_eq fun _ hi => by
    simp only [shiftStep, getLsbD_ushiftRight_one_or x _ hi, getLsbD_rotateRight_one x hi]) rfl

/-- The ring of R273: CF above the operand. -/
def carryRing {n : Nat} (out : BitVec n × Bool) : BitVec (n + 1) := BitVec.cons out.2 out.1

theorem carryRing_shiftStep_rcl {n : Nat} (hn : 0 < n) (x : BitVec n) (c : Bool) :
    carryRing (shiftStep .rcl x c) = (carryRing (x, c)).rotateLeft 1 := by
  refine BitVec.eq_of_getLsbD_eq fun i hi => ?_
  rw [getLsbD_rotateLeft_one _ hi]
  simp only [carryRing, shiftStep, BitVec.getLsbD_cons, BitVec.msb_cons]
  by_cases htop : i = n
  · have h0 : i ≠ 0 := by omega
    have hlast : i - 1 ≠ n := by omega
    rw [if_pos htop, if_neg h0, if_neg hlast, BitVec.msb_eq_getLsbD_last, htop]
  · have hlast : i - 1 ≠ n := by omega
    rw [if_neg htop, if_neg hlast, getLsbD_shiftLeft_one_or x c (by omega)]

theorem carryRing_shiftStep_rcr {n : Nat} (hn : 0 < n) (x : BitVec n) (c : Bool) :
    carryRing (shiftStep .rcr x c) = (carryRing (x, c)).rotateRight 1 := by
  refine BitVec.eq_of_getLsbD_eq fun i hi => ?_
  rw [getLsbD_rotateRight_one _ hi]
  simp only [carryRing, shiftStep, BitVec.getLsbD_cons, Nat.add_sub_cancel]
  by_cases htop : i = n
  · rw [if_pos htop, if_pos htop, if_neg (by omega)]
  · have hnext : i = n - 1 ↔ i + 1 = n := by omega
    simp only [htop, if_false, getLsbD_ushiftRight_one_or x c (show i < n by omega), hnext]

theorem shiftStep_sar {n : Nat} (x : BitVec n) (c : Bool) : shiftStep .sar x c = (x.sshiftRight 1, x.getLsbD 0) :=
  Prod.ext (ushiftRight_one_or_and_top x) rfl

/-! ## The closed forms for every count (R271 to R277) -/

/-- The last step split off: CF is what that step shifts out. -/
theorem shiftSteps_succ {n : Nat} (op : ShiftOp) (k : Nat) (x : BitVec n) (c : Bool) :
    shiftSteps op (k + 1) x c = shiftStep op (shiftSteps op k x c).1 (shiftSteps op k x c).2 := by
  induction k generalizing x c with
  | zero => rfl
  | succ k ih => exact ih _ _

theorem shiftSteps_rol {n : Nat} (hn : 0 < n) (k : Nat) (x : BitVec n) (c : Bool) :
    shiftSteps .rol k x c = (x.rotateLeft k, if k = 0 then c else (x.rotateLeft k).getLsbD 0) := by
  induction k with
  | zero => rw [rotateLeft_zero]; rfl
  | succ k ih =>
    rw [shiftSteps_succ, ih, shiftStep_rol, if_neg k.succ_ne_zero, ← rotateLeft_rotateLeft x k 1,
      getLsbD_rotateLeft_one _ hn, if_pos rfl]

theorem shiftSteps_ror {n : Nat} (hn : 0 < n) (k : Nat) (x : BitVec n) (c : Bool) :
    shiftSteps .ror k x c = (x.rotateRight k, if k = 0 then c else (x.rotateRight k).msb) := by
  induction k with
  | zero => rw [rotateRight_zero]; rfl
  | succ k ih =>
    rw [shiftSteps_succ, ih, shiftStep_ror, if_neg k.succ_ne_zero, ← rotateRight_rotateRight x k 1, msb_rotateRight_one hn]

theorem carryRing_shiftSteps_rcl {n : Nat} (hn : 0 < n) (k : Nat) (x : BitVec n) (c : Bool) :
    carryRing (shiftSteps .rcl k x c) = (carryRing (x, c)).rotateLeft k := by
  induction k with
  | zero => exact (rotateLeft_zero _).symm
  | succ k ih => rw [shiftSteps_succ, carryRing_shiftStep_rcl hn, ih, rotateLeft_rotateLeft]

theorem carryRing_shiftSteps_rcr {n : Nat} (hn : 0 < n) (k : Nat) (x : BitVec n) (c : Bool) :
    carryRing (shiftSteps .rcr k x c) = (carryRing (x, c)).rotateRight k := by
  induction k with
  | zero => exact (rotateRight_zero _).symm
  | succ k ih => rw [shiftSteps_succ, carryRing_shiftStep_rcr hn, ih, rotateRight_rotateRight]

theorem shiftSteps_shl {n : Nat} (k : Nat) (x : BitVec n) (c : Bool) :
    shiftSteps .shl k x c = (x <<< k, if k = 0 then c else if k ≤ n then x.getLsbD (n - k) else false) := by
  induction k with
  | zero => simp [shiftSteps]
  | succ k ih =>
    have hcf : (x <<< k).msb = if k + 1 ≤ n then x.getLsbD (n - (k + 1)) else false := by
      rw [BitVec.msb_shiftLeft, BitVec.getMsbD_eq_getLsbD, show n - 1 - k = n - (k + 1) by omega]
      by_cases hk : k + 1 ≤ n
      · rw [if_pos hk, decide_eq_true (show k < n from hk), Bool.true_and]
      · rw [if_neg hk, decide_eq_false (show ¬ k < n from hk), Bool.false_and]
    rw [shiftSteps_succ, ih, if_neg k.succ_ne_zero, ← hcf, BitVec.shiftLeft_add, shiftStep]

theorem shiftSteps_shr {n : Nat} (k : Nat) (x : BitVec n) (c : Bool) :
    shiftSteps .shr k x c = (x >>> k, if k = 0 then c else x.getLsbD (k - 1)) := by
  induction k with
  | zero => simp [shiftSteps]
  | succ k ih =>
    rw [shiftSteps_succ, ih, if_neg k.succ_ne_zero, BitVec.shiftRight_add, shiftStep, BitVec.getLsbD_ushiftRight]
    rfl

theorem shiftSteps_sar {n : Nat} (hn : 0 < n) (k : Nat) (x : BitVec n) (c : Bool) :
    shiftSteps .sar k x c = (x.sshiftRight k, if k = 0 then c else if k ≤ n then x.getLsbD (k - 1) else x.msb) := by
  induction k with
  | zero => simp [shiftSteps]
  | succ k ih =>
    have hcf : (x.sshiftRight k).getLsbD 0 = if k + 1 ≤ n then x.getLsbD k else x.msb := by
      have hwidth : ¬ n ≤ 0 := by omega
      simp only [BitVec.getLsbD_sshiftRight, hwidth, decide_false, Bool.not_false, Bool.true_and, Nat.add_zero, Nat.succ_le_iff]
    rw [shiftSteps_succ, ih, if_neg k.succ_ne_zero, shiftStep_sar, BitVec.sshiftRight_add, hcf]
    rfl

/-! ## The instructions (R270) -/

/-- The four forms of each shift and rotate. -/
def shiftForms : ShiftOp → ShiftForms
  | .rol => rolForms
  | .ror => rorForms
  | .rcl => rclForms
  | .rcr => rcrForms
  | .shl => shlForms
  | .shr => shrForms
  | .sar => sarForms

/-- An instruction that shifts a place by a count meets every rule the outcome of the steps meets. -/
theorem shifts_of_exec {n : Nat} {i : Instr} {p : State → Place n} {count : State → Nat} (op : ShiftOp) (rule : ShiftRule)
    (hrule : ∀ (k : Nat) (a : BitVec n) (c : Bool), rule n a c k (shiftSteps op k a c).1 (shiftSteps op k a c).2)
    (hplain : ∀ s, (p s).plain) (hexec : ∀ s, exec i s = .next (s.shift op (p s) (count s))) :
    Shifts rule (fun _ => shiftOf op) (shiftSetsZsp op) n i p count := by
  intro s
  obtain ⟨hvalue, hcf, hof, hzsp, hkept, htrace⟩ := shift_spec s op (p s) (hplain s) (count s)
  refine ⟨_, _, _, hexec s, hrule _ _ _, hvalue, hcf, hof, fun harith hcount => ?_, hkept, htrace⟩
  obtain ⟨hzf, hsf, hpf⟩ := hzsp harith hcount
  exact ⟨hzf ▸ beq_zero_iff_toNat _, hsf, hpf ▸ parity8_iff _⟩

/-- A shift or rotate meets, in all four forms, every rule the outcome of its steps meets. -/
theorem shiftForms_shifts (op : ShiftOp) (rule : ShiftRule)
    (hrule : ∀ n, 0 < n → ∀ (k : Nat) (a : BitVec n) (c : Bool),
      rule n a c k (shiftSteps op k a c).1 (shiftSteps op k a c).2) :
    (shiftForms op).All (Shifts rule (fun _ => shiftOf op) (shiftSetsZsp op)) := by
  have h8 := hrule 8 (by decide)
  have h16 := hrule 16 (by decide)
  refine ⟨fun o => shifts_of_exec op rule h8 (fun s => s.place8_plain o) fun s => ?_,
    fun o => shifts_of_exec op rule h16 (fun s => s.place16_plain o) fun s => ?_,
    fun o => shifts_of_exec op rule h8 (fun s => s.place8_plain o) fun s => ?_,
    fun o => shifts_of_exec op rule h16 (fun s => s.place16_plain o) fun s => ?_⟩ <;>
    cases op <;> rfl

/-- Settles O33: `k` steps of ROL and ROR are one rotation by `k`. -/
theorem rotateResult : Obligations.RotateResult :=
  ⟨shiftForms_shifts .rol _ fun _ hn _ _ _ => by
      rw [shiftSteps_rol hn, BitVec.rotateLeft_mod_eq_rotateLeft]
      exact ⟨rfl, rfl⟩,
    shiftForms_shifts .ror _ fun _ hn _ _ _ => by
      rw [shiftSteps_ror hn, BitVec.rotateRight_mod_eq_rotateRight]
      exact ⟨rfl, rfl⟩⟩

/-- Settles O34: `k` steps of RCL and RCR are one rotation of the ring by `k`. -/
theorem rotateThroughCarryResult : Obligations.RotateThroughCarryResult :=
  ⟨shiftForms_shifts .rcl _ fun _ hn k a c =>
      (carryRing_shiftSteps_rcl hn k a c).trans BitVec.rotateLeft_mod_eq_rotateLeft.symm,
    shiftForms_shifts .rcr _ fun _ hn k a c =>
      (carryRing_shiftSteps_rcr hn k a c).trans BitVec.rotateRight_mod_eq_rotateRight.symm⟩

/-- Settles O35: `k` steps of SHL are one shift by `k`. -/
theorem shiftLeftResult : Obligations.ShiftLeftResult :=
  shiftForms_shifts .shl _ fun _ _ _ _ _ => by
    rw [shiftSteps_shl]
    exact ⟨by rw [BitVec.toNat_shiftLeft, Nat.shiftLeft_eq], rfl⟩

/-- Settles O36: `k` steps of SHR and SAR are one shift by `k`, and a shift right divides. -/
theorem shiftRightResult : Obligations.ShiftRightResult :=
  ⟨shiftForms_shifts .shr _ fun _ _ _ _ _ => by
      rw [shiftSteps_shr]
      exact ⟨by rw [BitVec.toNat_ushiftRight, Nat.shiftRight_eq_div_pow], rfl⟩,
    shiftForms_shifts .sar _ fun _ hn _ _ _ => by
      rw [shiftSteps_sar hn]
      exact ⟨by rw [BitVec.toInt_sshiftRight, Int.shiftRight_eq_div_pow, Int.natCast_pow, Int.cast_ofNat_Int], rfl⟩⟩

end Sys2Proof.Machine

/-! SUPPORT. Multiply, divide, convert (46_mul_div_convert.md R300 to R305): a result is computed over the integers, and its register has the width to hold it exactly. -/

namespace Sys2Proof.Machine

/-! ## Results that fit -/

/-- An unsigned product fits twice the width. -/
theorem toNat_ofNat_mul {n m : Nat} (h : n * 2 ≤ m) (a b : BitVec n) :
    (BitVec.ofNat m (a.toNat * b.toNat)).toNat = a.toNat * b.toNat := by
  have hpow : 2 ^ (n * 2) ≤ 2 ^ m := Nat.pow_le_pow_right (by decide) h
  rw [BitVec.toNat_ofNat, Nat.mod_eq_of_lt (Nat.lt_of_lt_of_le BitVec.toNat_mul_toNat_lt hpow)]

/-- A signed product fits twice the width, that of the two most negative operands too. -/
theorem toInt_ofInt_mul {n m : Nat} (hn : 0 < n) (h : n * 2 ≤ m) (a b : BitVec n) :
    (BitVec.ofInt m (a.toInt * b.toInt)).toInt = a.toInt * b.toInt := by
  have hlow : -2 ^ (n * 2 - 2) ≤ a.toInt * b.toInt := BitVec.le_toInt_mul_toInt
  have hhigh : a.toInt * b.toInt ≤ 2 ^ (n * 2 - 2) := BitVec.toInt_mul_toInt_le
  have hpow : (2 : Int) ^ (n * 2 - 2) < 2 ^ (m - 1) := Int.pow_lt_pow_of_lt (by decide) (by omega)
  exact BitVec.toInt_ofInt_eq_self (by omega) (by omega) (by omega)

/-- An unsigned remainder is below its divisor and so has its width. -/
theorem toNat_ofNat_mod {n : Nat} (a : Nat) {d : BitVec n} (hd : d.toNat ≠ 0) :
    (BitVec.ofNat n (a % d.toNat)).toNat = a % d.toNat := by
  have hmod : a % d.toNat < d.toNat := Nat.mod_lt _ (Nat.pos_of_ne_zero hd)
  rw [BitVec.toNat_ofNat, Nat.mod_eq_of_lt (Nat.lt_trans hmod d.isLt)]

/-- What is left of a dividend is the truncating remainder; it is nearer to 0 than its divisor and so has its width. -/
theorem toInt_ofInt_sub_tdiv_mul {n : Nat} (hn : 0 < n) (a : Int) {d : BitVec n} (hd : d.toInt ≠ 0) :
    (BitVec.ofInt n (a - a.tdiv d.toInt * d.toInt)).toInt = a.tmod d.toInt := by
  have hrem : (a.tmod d.toInt).natAbs < d.toInt.natAbs := by
    rw [Int.natAbs_tmod]
    exact Nat.mod_lt _ (by omega)
  have hlow := d.le_toInt
  have hhigh := d.toInt_lt
  rw [Int.mul_comm, ← Int.tmod_def]
  exact BitVec.toInt_ofInt_eq_self hn (by omega) (by omega)

theorem bne_zero_iff_toNat {n : Nat} (x : BitVec n) : (x != 0) = true ↔ x.toNat ≠ 0 := by
  rw [bne_iff_ne]
  exact not_congr BitVec.toNat_inj.symm

/-- A number is not the sign extension of its low half exactly when the two differ in value. -/
theorem bne_signExtend_iff_toInt {n m : Nat} (h : m ≤ n) (x : BitVec n) (y : BitVec m) :
    (x != y.signExtend n) = true ↔ x.toInt ≠ y.toInt := by
  rw [bne_iff_ne, ← BitVec.toInt_ne, BitVec.toInt_signExtend_of_le h]

/-- The copies of the sign bit that a conversion puts above `x`. -/
def signFill {n : Nat} (x : BitVec n) : BitVec n := if x.msb then BitVec.allOnes n else 0

/-- The sign bits above a number keep its value. -/
theorem signFill_toInt_mul_add {n : Nat} (hn : 0 < n) (x : BitVec n) :
    (signFill x).toInt * 2 ^ n + x.toNat = x.toInt := by
  rw [BitVec.toInt_eq_msb_cond x, signFill, Int.natCast_pow, Int.cast_ofNat_Int]
  cases x.msb
  case false => simp
  case true => rw [if_pos rfl, if_pos rfl, BitVec.toInt_allOnes, if_pos hn]; omega

/-! ## The registers of a result -/

@[simp] theorem State.reg_setCfOf (s : State) (b : Bool) (r : RegId) (h : r ≠ .flags) : (s.setCfOf b).reg r = s.reg r := by
  simp [State.setCfOf, h]
@[simp] theorem State.flag_cf_setCfOf (s : State) (b : Bool) : (s.setCfOf b).flag .cf = b := by
  simp [State.setCfOf, State.flag_setFlag]
@[simp] theorem State.flag_of_setCfOf (s : State) (b : Bool) : (s.setCfOf b).flag .of = b := by
  simp [State.setCfOf, State.flag_setFlag]
@[simp] theorem State.trace_setCfOf (s : State) (b : Bool) : (s.setCfOf b).trace = s.trace := rfl

@[simp] theorem State.reg_dx_setDxAx (s : State) (v : BitVec 32) : (s.setDxAx v).reg .dx = v.extractLsb' 16 16 := rfl
@[simp] theorem State.reg_ax_setDxAx (s : State) (v : BitVec 32) : (s.setDxAx v).reg .ax = v.extractLsb' 0 16 := rfl
@[simp] theorem State.trace_setDxAx (s : State) (v : BitVec 32) : (s.setDxAx v).trace = s.trace := rfl

@[simp] theorem State.dxAx_setCfOf (s : State) (b : Bool) : (s.setCfOf b).dxAx = s.dxAx := by
  simp [State.dxAx]
@[simp] theorem State.dxAx_setDxAx (s : State) (v : BitVec 32) : (s.setDxAx v).dxAx = v :=
  (BitVec.extractLsb'_append_extractLsb'_eq_extractLsb' (start₁ := 0) rfl).trans BitVec.extractLsb'_eq_self

theorem State.reg8_al (s : State) : s.reg8 .al = loByte (s.reg .ax) := rfl
theorem State.reg8_ah (s : State) : s.reg8 .ah = hiByte (s.reg .ax) := rfl
theorem State.reg_ax_setReg8_ah (s : State) (v : Byte) : (s.setReg8 .ah v).reg .ax = leWord (s.reg8 .al) v := rfl

theorem toInt_leWord (lo hi : Byte) : (leWord lo hi).toInt = hi.toInt * 256 + lo.toNat := by
  refine BitVec.toInt_append.trans ?_
  rw [if_neg (by decide), Int.mul_comm]
  rfl

/-! ## Products (R300, R301) -/

/-- A result written to AX, with CF and OF. -/
theorem setAx_spec (s : State) (p : Place 8) (r : Word) (b : Bool) :
    let t := ((s.noteRead p).setReg .ax r).setCfOf b
    t.reg .ax = r ∧ t.flag .cf = b ∧ t.flag .of = t.flag .cf ∧ t.trace = s.trace ++ p.readEvents := by
  simp

/-- A result written to DX:AX, with CF and OF. -/
theorem setDxAx_spec (s : State) (p : Place 16) (r : BitVec 32) (b : Bool) :
    let t := ((s.noteRead p).setDxAx r).setCfOf b
    t.dxAx = r ∧ t.reg .dx = r.extractLsb' 16 16 ∧ t.reg .ax = r.extractLsb' 0 16 ∧
      t.flag .cf = b ∧ t.flag .of = t.flag .cf ∧ t.trace = s.trace ++ p.readEvents := by
  simp

theorem mul8_spec (s : State) (p : Place 8) :
    let t := s.mul8 p
    (t.reg .ax).toNat = (s.reg8 .al).toNat * (s.valueOf p).toNat ∧
      (t.flag .cf = true ↔ (t.reg8 .ah).toNat ≠ 0) ∧ t.flag .of = t.flag .cf ∧
      Kept s t { regs := [.ax], flags := [.cf, .of] } ∧ t.trace = s.trace ++ p.readEvents := by
  intro t
  obtain ⟨hax, hcf, hof, htrace⟩ : t.reg .ax = _ ∧ t.flag .cf = _ ∧ t.flag .of = _ ∧ t.trace = _ := setAx_spec s p _ _
  refine ⟨?_, ?_, hof, kept_mul8 s p, htrace⟩
  · rw [hax, toNat_ofNat_mul (by decide)]
  · rw [hcf, t.reg8_ah, hax, bne_zero_iff_toNat]

theorem imul8_spec (s : State) (p : Place 8) :
    let t := s.imul8 p
    (t.reg .ax).toInt = (s.reg8 .al).toInt * (s.valueOf p).toInt ∧
      (t.flag .cf = true ↔ (t.reg .ax).toInt ≠ (t.reg8 .al).toInt) ∧ t.flag .of = t.flag .cf ∧
      Kept s t { regs := [.ax], flags := [.cf, .of] } ∧ t.trace = s.trace ++ p.readEvents := by
  intro t
  obtain ⟨hax, hcf, hof, htrace⟩ : t.reg .ax = _ ∧ t.flag .cf = _ ∧ t.flag .of = _ ∧ t.trace = _ := setAx_spec s p _ _
  refine ⟨?_, ?_, hof, kept_imul8 s p, htrace⟩
  · rw [hax, toInt_ofInt_mul (by decide) (by decide)]
  · rw [hcf, t.reg8_al, hax, sext16, bne_signExtend_iff_toInt (by decide)]

theorem mul16_spec (s : State) (p : Place 16) :
    let t := s.mul16 p
    (t.reg .dx).toNat * 65536 + (t.reg .ax).toNat = (s.reg .ax).toNat * (s.valueOf p).toNat ∧
      (t.flag .cf = true ↔ (t.reg .dx).toNat ≠ 0) ∧ t.flag .of = t.flag .cf ∧
      Kept s t { regs := [.dx, .ax], flags := [.cf, .of] } ∧ t.trace = s.trace ++ p.readEvents := by
  intro t
  obtain ⟨hdxAx, hdx, -, hcf, hof, htrace⟩ : t.dxAx = _ ∧ t.reg .dx = _ ∧ t.reg .ax = _ ∧ t.flag .cf = _ ∧
    t.flag .of = _ ∧ t.trace = _ := setDxAx_spec s p _ _
  refine ⟨?_, ?_, hof, kept_mul16 s p, htrace⟩
  · rw [← t.dxAx_toNat, hdxAx, toNat_ofNat_mul (by decide)]
  · rw [hcf, hdx, bne_zero_iff_toNat]

theorem imul16_spec (s : State) (p : Place 16) :
    let t := s.imul16 p
    (t.reg .dx).toInt * 65536 + (t.reg .ax).toNat = (s.reg .ax).toInt * (s.valueOf p).toInt ∧
      (t.flag .cf = true ↔ (t.reg .dx).toInt * 65536 + (t.reg .ax).toNat ≠ (t.reg .ax).toInt) ∧
      t.flag .of = t.flag .cf ∧
      Kept s t { regs := [.dx, .ax], flags := [.cf, .of] } ∧ t.trace = s.trace ++ p.readEvents := by
  intro t
  obtain ⟨hdxAx, -, hax, hcf, hof, htrace⟩ : t.dxAx = _ ∧ t.reg .dx = _ ∧ t.reg .ax = _ ∧ t.flag .cf = _ ∧
    t.flag .of = _ ∧ t.trace = _ := setDxAx_spec s p _ _
  rw [← t.dxAx_toInt]
  refine ⟨?_, ?_, hof, kept_imul16 s p, htrace⟩
  · rw [hdxAx, toInt_ofInt_mul (by decide) (by decide)]
  · rw [hcf, hdxAx, hax, bne_signExtend_iff_toInt (by decide)]

/-- Settles O37: twice the operands' width holds every product, and the flags compare it with its low half. -/
theorem multiplyGivesWholeProduct : Obligations.MultiplyGivesWholeProduct :=
  ⟨fun o s => ⟨_, rfl, mul8_spec s (s.place8 o)⟩, fun o s => ⟨_, rfl, mul16_spec s (s.place16 o)⟩,
    fun o s => ⟨_, rfl, imul8_spec s (s.place8 o)⟩, fun o s => ⟨_, rfl, imul16_spec s (s.place16 o)⟩⟩

/-! ## Quotients (R302, R303, R422) -/

/-- A footprint in which every 8-bit view stands for its whole register. -/
theorem Kept.wholeRegs {s t : State} {f : Footprint} (h : Kept s t f) :
    Kept s t { f with regs := f.regs ++ f.halves.map Reg8.parent, halves := [] } where
  host := h.host
  regs r hflags hr _ := by
    simp only [List.mem_append, List.mem_map, not_or, not_exists, not_and] at hr
    exact h.regs r hflags hr.1 hr.2
  halves x _ hx := by
    simp only [List.mem_append, List.mem_map, not_or, not_exists, not_and] at hx
    exact h.halves x (fun hmem => hx.2 x hmem rfl) hx.1
  flags := h.flags
  flagsWord := h.flagsWord
  flagsReserved := h.flagsReserved
  bytes := h.bytes
  memWf := h.memWf

/-- The quotient in AL and the remainder in AH. -/
theorem setAlAh_spec (s : State) (p : Place 8) (q r : Byte) :
    let t := ((s.noteRead p).setReg8 .al q).setReg8 .ah r
    t.reg8 .al = q ∧ t.reg8 .ah = r ∧ Kept s t { regs := [.ax] } ∧ t.trace = s.trace ++ p.readEvents :=
  ⟨by simp [State.reg8_setReg8], by simp,
    (((kept_noteRead s p).trans (kept_setReg8 _ .al q)).trans (kept_setReg8 _ .ah r)).wholeRegs.mono
      (by decide) (by decide) (by decide) (by decide),
    by simp⟩

/-- The quotient in AX and the remainder in DX. -/
theorem setAxDx_spec (s : State) (p : Place 16) (q r : Word) :
    let t := ((s.noteRead p).setReg .ax q).setReg .dx r
    t.reg .ax = q ∧ t.reg .dx = r ∧ Kept s t { regs := [.dx, .ax] } ∧ t.trace = s.trace ++ p.readEvents :=
  ⟨by simp, by simp,
    (((kept_noteRead s p).trans (kept_setReg _ .ax q (by decide))).trans (kept_setReg _ .dx r (by decide))).mono
      (by decide) (by decide) (by decide) (by decide),
    by simp⟩

/-- The fault of a division comes after its operand was read, and the fault itself saves nothing (R422, R423). -/
theorem faultedWith_raise_noteRead (s : State) {n : Nat} (p : Place n) (k : FaultKind) :
    FaultedWith s ((s.noteRead p).raise k) k p.readEvents where
  runState := rfl
  record := rfl
  regs r := s.reg_noteRead p r
  bytes a := s.byteAt_noteRead p a
  trace := s.trace_noteRead p
  hostOut := (kept_noteRead s p).host.hostOut
  exitCode := (kept_noteRead s p).host.exitCode
  breakpoints := (kept_noteRead s p).host.breakpoints
  params := (kept_noteRead s p).host.params
  handlerEffects := (kept_noteRead s p).host.handlerEffects

theorem div8_completes (s : State) (p : Place 8) (hd : (s.valueOf p).toNat ≠ 0)
    (hq : (s.reg .ax).toNat / (s.valueOf p).toNat ≤ 0xFF) :
    ∃ t, s.div8 p = .next t ∧ (t.reg8 .al).toNat = (s.reg .ax).toNat / (s.valueOf p).toNat ∧
      (t.reg8 .ah).toNat = (s.reg .ax).toNat % (s.valueOf p).toNat ∧
      Kept s t { regs := [.ax] } ∧ t.trace = s.trace ++ p.readEvents := by
  obtain ⟨hal, hah, hkept⟩ := setAlAh_spec s p _ _
  refine ⟨_, div8_ok s p hd hq, ?_, ?_, hkept⟩
  · rw [hal, BitVec.toNat_ofNat, Nat.mod_eq_of_lt (by omega)]
  · rw [hah, toNat_ofNat_mod _ hd]

theorem div16_completes (s : State) (p : Place 16) (hd : (s.valueOf p).toNat ≠ 0)
    (hq : s.dxAx.toNat / (s.valueOf p).toNat ≤ 0xFFFF) :
    ∃ t, s.div16 p = .next t ∧ (t.reg .ax).toNat = s.dxAx.toNat / (s.valueOf p).toNat ∧
      (t.reg .dx).toNat = s.dxAx.toNat % (s.valueOf p).toNat ∧
      Kept s t { regs := [.dx, .ax] } ∧ t.trace = s.trace ++ p.readEvents := by
  obtain ⟨hax, hdx, hkept⟩ := setAxDx_spec s p _ _
  refine ⟨_, div16_ok s p hd hq, ?_, ?_, hkept⟩
  · rw [hax, BitVec.toNat_ofNat, Nat.mod_eq_of_lt (by omega)]
  · rw [hdx, toNat_ofNat_mod _ hd]

theorem idiv8_completes (s : State) (p : Place 8) (hd : (s.valueOf p).toInt ≠ 0)
    (hl : -127 ≤ (s.reg .ax).toInt.tdiv (s.valueOf p).toInt) (hu : (s.reg .ax).toInt.tdiv (s.valueOf p).toInt ≤ 127) :
    ∃ t, s.idiv8 p = .next t ∧ (t.reg8 .al).toInt = (s.reg .ax).toInt.tdiv (s.valueOf p).toInt ∧
      (t.reg8 .ah).toInt = (s.reg .ax).toInt.tmod (s.valueOf p).toInt ∧
      Kept s t { regs := [.ax] } ∧ t.trace = s.trace ++ p.readEvents := by
  obtain ⟨hal, hah, hkept⟩ := setAlAh_spec s p _ _
  refine ⟨_, idiv8_ok s p hd hu hl, ?_, ?_, hkept⟩
  · rw [hal, BitVec.toInt_ofInt_eq_self (by decide) (by omega) (by omega)]
  · rw [hah, toInt_ofInt_sub_tdiv_mul (by decide) _ hd]

theorem idiv16_completes (s : State) (p : Place 16) (hd : (s.valueOf p).toInt ≠ 0)
    (hl : -32767 ≤ s.dxAx.toInt.tdiv (s.valueOf p).toInt) (hu : s.dxAx.toInt.tdiv (s.valueOf p).toInt ≤ 32767) :
    ∃ t, s.idiv16 p = .next t ∧ (t.reg .ax).toInt = s.dxAx.toInt.tdiv (s.valueOf p).toInt ∧
      (t.reg .dx).toInt = s.dxAx.toInt.tmod (s.valueOf p).toInt ∧
      Kept s t { regs := [.dx, .ax] } ∧ t.trace = s.trace ++ p.readEvents := by
  obtain ⟨hax, hdx, hkept⟩ := setAxDx_spec s p _ _
  refine ⟨_, idiv16_ok s p hd hu hl, ?_, ?_, hkept⟩
  · rw [hax, BitVec.toInt_ofInt_eq_self (by decide) (by omega) (by omega)]
  · rw [hdx, toInt_ofInt_sub_tdiv_mul (by decide) _ hd]

/-- Settles O38: a quotient that passed the test fits its register, and the remainder is below the divisor. -/
theorem divDividesOrFaults : Obligations.DivDividesOrFaults := by
  refine ⟨fun o s => ⟨div8_completes s _, fun h => ⟨_, div8_fault s _ h, faultedWith_raise_noteRead s _ _⟩⟩, fun o s => ?_⟩
  rw [← s.dxAx_toNat]
  exact ⟨div16_completes s _, fun h => ⟨_, div16_fault s _ h, faultedWith_raise_noteRead s _ _⟩⟩

/-- Settles O39: a quotient that passed the test fits its register, and the remainder is nearer to 0 than the divisor. -/
theorem idivDividesOrFaults : Obligations.IdivDividesOrFaults := by
  refine ⟨fun o s => ⟨idiv8_completes s _, fun h =>
    ⟨_, idiv8_fault s _ (h.imp_right Or.symm), faultedWith_raise_noteRead s _ _⟩⟩, fun o s => ?_⟩
  rw [← s.dxAx_toInt]
  exact ⟨idiv16_completes s _, fun h => ⟨_, idiv16_fault s _ (h.imp_right Or.symm), faultedWith_raise_noteRead s _ _⟩⟩

/-! ## Conversions (R304, R305) -/

/-- The model's 0xFF and 0x00 are all ones and zero. -/
theorem execCbw_eq (s : State) : exec .cbw s = .next (s.setReg8 .ah (signFill (s.reg8 .al))) := rfl

theorem execCwd_eq (s : State) : exec .cwd s = .next (s.setReg .dx (signFill (s.reg .ax))) := rfl

theorem cbw_spec (s : State) :
    let t := s.setReg8 .ah (signFill (s.reg8 .al))
    (t.reg .ax).toInt = (s.reg8 .al).toInt ∧ t.reg8 .ah = signFill (s.reg8 .al) ∧
      Kept s t { halves := [.ah] } ∧ t.trace = s.trace := by
  refine ⟨?_, s.reg8_setReg8_self .ah _, kept_setReg8 s .ah _, rfl⟩
  rw [s.reg_ax_setReg8_ah, toInt_leWord]
  exact signFill_toInt_mul_add (by decide) _

theorem cwd_spec (s : State) :
    let t := s.setReg .dx (signFill (s.reg .ax))
    (t.reg .dx).toInt * 65536 + (t.reg .ax).toNat = (s.reg .ax).toInt ∧ t.reg .dx = signFill (s.reg .ax) ∧
      Kept s t { regs := [.dx] } ∧ t.trace = s.trace :=
  ⟨signFill_toInt_mul_add (by decide) (s.reg .ax), rfl, kept_setReg s .dx _ (by decide), rfl⟩

/-- Settles O40: the bits put above AL and AX are copies of the sign bit. -/
theorem convertExtendsSign : Obligations.ConvertExtendsSign := fun s =>
  ⟨⟨_, execCbw_eq s, cbw_spec s⟩, ⟨_, execCwd_eq s, cwd_spec s⟩⟩

end Sys2Proof.Machine

/-! SUPPORT. LAHF, SAHF, the flag controls and HLT (47_flag_misc.md R320 to R329): the byte LAHF builds weighs each flag by its bit position, and SAHF gives each of the five flags its bit of AH. -/

namespace Sys2Proof.Machine

/-! ## LAHF and SAHF (R320, R321) -/

/-- Concatenation places the right-hand bits below the left-hand ones. -/
theorem toNat_append_eq_mul_add {n m : Nat} (x : BitVec n) (y : BitVec m) :
    (x ++ y).toNat = x.toNat * 2 ^ m + y.toNat := by
  rw [BitVec.toNat_append, Nat.shiftLeft_eq, Nat.mul_comm, ← Nat.two_pow_add_eq_or_of_lt y.isLt]

/-- The weights of the flags in LAHF's byte, with the constant 1 at bit 1 (R320). -/
theorem State.lahfByte_toNat (s : State) :
    s.lahfByte.toNat = 128 * (s.flag .sf).toNat + 64 * (s.flag .zf).toNat + 16 * (s.flag .af).toNat +
      4 * (s.flag .pf).toNat + 2 + (s.flag .cf).toNat := by
  simp only [State.lahfByte, toNat_append_eq_mul_add, BitVec.toNat_ofBool, BitVec.ofNat_eq_ofNat, BitVec.toNat_ofNat]
  omega

/-- A flag after SAHF's shared operation (R321). -/
theorem State.flag_loadFlagsByte (s : State) (v : Byte) (g : Flag) :
    (s.loadFlagsByte v).flag g =
      match g with
      | .sf => v.getLsbD 7 | .zf => v.getLsbD 6 | .af => v.getLsbD 4 | .pf => v.getLsbD 2 | .cf => v.getLsbD 0
      | .of => s.flag .of | .tf => s.flag .tf | .intf => s.flag .intf | .df => s.flag .df := by
  cases g <;> simp [State.loadFlagsByte, State.flag_setFlag]

@[simp] theorem State.trace_loadFlagsByte (s : State) (v : Byte) : (s.loadFlagsByte v).trace = s.trace := by
  simp [State.loadFlagsByte]

theorem execLahf_eq (s : State) : exec .lahf s = .next (s.setReg8 .ah s.lahfByte) := rfl

theorem execSahf_eq (s : State) : exec .sahf s = .next (s.loadFlagsByte (s.reg8 .ah)) := rfl

theorem lahf_spec (s : State) :
    let t := s.setReg8 .ah s.lahfByte
    (t.reg8 .ah).toNat = 128 * (s.flag .sf).toNat + 64 * (s.flag .zf).toNat + 16 * (s.flag .af).toNat +
        4 * (s.flag .pf).toNat + 2 + (s.flag .cf).toNat ∧
      Kept s t { halves := [.ah] } ∧ t.trace = s.trace := by
  refine ⟨?_, kept_setReg8 s .ah _, State.trace_setReg8 s .ah _⟩
  rw [State.reg8_setReg8_self, State.lahfByte_toNat]

theorem loadFlagsByte_spec (s : State) (v : Byte) :
    let t := s.loadFlagsByte v
    t.flag .sf = v.getLsbD 7 ∧ t.flag .zf = v.getLsbD 6 ∧ t.flag .af = v.getLsbD 4 ∧ t.flag .pf = v.getLsbD 2 ∧
      t.flag .cf = v.getLsbD 0 ∧ Kept s t { flags := [.sf, .zf, .af, .pf, .cf] } ∧ t.trace = s.trace :=
  ⟨s.flag_loadFlagsByte v .sf, s.flag_loadFlagsByte v .zf, s.flag_loadFlagsByte v .af, s.flag_loadFlagsByte v .pf,
    s.flag_loadFlagsByte v .cf, kept_loadFlagsByte s v, s.trace_loadFlagsByte v⟩

/-- Settles O41: LAHF's byte by the weights of its bits, SAHF by the flag each bit goes to. -/
theorem lahfAndSahfMoveFlags : Obligations.LahfAndSahfMoveFlags := fun s =>
  ⟨⟨_, execLahf_eq s, lahf_spec s⟩, ⟨_, execSahf_eq s, loadFlagsByte_spec s (s.reg8 .ah)⟩⟩

/-! ## Flag controls, NOP and HLT (R322 to R329) -/

/-- An instruction that means writing one flag does nothing else. -/
theorem setsFlag_of_exec_eq {i : Instr} {g : Flag} {b : Bool} (h : ∀ s, exec i s = .next (s.setFlag g b)) :
    SetsFlag i g b := fun s =>
  ⟨s.setFlag g b, h s, by rw [State.flag_setFlag, if_pos rfl], kept_setFlag s g b, State.trace_setFlag s g b⟩

/-- The end of a step leaves a core that halted as it is (R140, R160). -/
theorem State.finish_of_halted {s : State} (h : s.runState = .halted) : s.finish = s := by
  simp [State.finish, h]

theorem execNop_eq (s : State) : exec .nop s = .next s := rfl

theorem execHlt_eq (s : State) : exec .hlt s = .next s.halt := rfl

/-- Settles O42: each flag control is one write of one flag, and a core that halted keeps its state to the end of the step. -/
theorem flagControlsNopAndHlt : Obligations.FlagControlsNopAndHlt :=
  ⟨setsFlag_of_exec_eq fun _ => rfl, setsFlag_of_exec_eq fun _ => rfl, setsFlag_of_exec_eq fun _ => rfl,
    setsFlag_of_exec_eq fun _ => rfl, setsFlag_of_exec_eq fun _ => rfl, setsFlag_of_exec_eq fun _ => rfl, execNop_eq,
    fun s => ⟨s.halt, execHlt_eq s, rfl, State.finish_of_halted s.halt_runState, stepReturn_of_halted s.halt_runState,
      s.halt_runState⟩⟩

end Sys2Proof.Machine

/-! SUPPORT. The conditions after CMP, the jumps, the calls and the returns (48_control_transfer.md R340 to R379), and INT where no service of INT 21h runs (48_control_transfer.md R378; 60_exceptions.md R424, R428). -/

namespace Sys2Proof.Machine

/-! ## The conditions after CMP (R344 to R360; 43_arithmetic.md R225) -/

/-! Five conditions are the negations of five others. -/

theorem State.cond_nb_eq_not_b (s : State) : s.cond .nb = !s.cond .b := rfl

theorem State.cond_ne_eq_not_e (s : State) : s.cond .ne = !s.cond .e := rfl

theorem State.cond_a_eq_not_be (s : State) : s.cond .a = !s.cond .be := (Bool.not_or ..).symm

theorem State.cond_ge_eq_not_l (s : State) : s.cond .ge = !s.cond .l := (Bool.not_not _).symm

theorem State.cond_g_eq_not_le (s : State) : s.cond .g = !s.cond .le := by
  rw [State.cond, State.cond, bne, Bool.not_or, Bool.not_not]

/-- Without a carry in, CF of a subtraction says that the first operand is below the second. -/
theorem SubRule.cf_iff_lt {n : Nat} {a b r : BitVec n} {x : Status} (h : SubRule n a b false r x) :
    x.cf = true ↔ a.toNat < b.toNat := h.cf

/-- A difference is zero exactly when the operands are equal. -/
theorem SubRule.zf_iff_eq {n : Nat} {a b r : BitVec n} {x : Status} (h : SubRule n a b false r x) :
    x.zf = true ↔ a = b := by
  have ha : a.toNat < 2 ^ n := a.isLt
  have hb : b.toNat < 2 ^ n := b.isLt
  have hdiff := h.toNat_cases
  rw [Bool.toNat_false] at hdiff
  rw [h.zf, ← BitVec.toNat_inj]
  omega

/-- SF is the sign of the difference unless OF says that the difference did not fit: they differ exactly when it is negative. -/
theorem SubRule.sf_bne_of_iff_lt {n : Nat} {a b r : BitVec n} {x : Status} (h : SubRule n a b false r x) :
    (x.sf != x.of) = true ↔ a.toInt < b.toInt := by
  rw [bne_iff_ne, ne_eq, Bool.eq_iff_iff, h.sf, h.of]
  cases n with
  | zero => simp [BitVec.eq_nil a, BitVec.eq_nil b, BitVec.eq_nil r]
  | succ m =>
    have hdiff := h.toNat_cases
    have ha := toInt_cases a
    have hb := toInt_cases b
    have hr := toInt_cases r
    simp only [BitVec.msb_eq_toInt, ne_eq, decide_eq_decide, decide_eq_true_eq, Bool.toNat_false, Nat.pow_succ] at *
    omega

/-- Flags that follow the rule of SUB make every condition compare the operands. -/
theorem conditionsCompare_of_writesFlagsOnly {n : Nat} {i : Instr} {dst : State → Place n} {src : State → Source n}
    (h : WritesFlagsOnly (fun n a b _ r x => SubRule n a b false r x) n i dst src) : ConditionsCompare n i dst src := by
  intro s
  obtain ⟨t, r, x, hexec, hrule, hstatus, -, -⟩ := h s
  refine ⟨t, hexec, ?_⟩
  intro a b
  have hb : t.cond .b = true ↔ a.toNat < b.toNat := by
    rw [State.cond, hstatus.cf, hrule.cf_iff_lt]
  have he : t.cond .e = true ↔ a = b := by
    rw [State.cond, hstatus.zf, hrule.zf_iff_eq]
  have hl : t.cond .l = true ↔ a.toInt < b.toInt := by
    rw [State.cond, hstatus.sf, hstatus.of, hrule.sf_bne_of_iff_lt]
  have hbe : t.cond .be = true ↔ a.toNat ≤ b.toNat := by
    rw [Nat.le_iff_lt_or_eq, BitVec.toNat_inj, ← hb, ← he, ← Bool.or_eq_true]
    rfl
  have hle : t.cond .le = true ↔ a.toInt ≤ b.toInt := by
    rw [Int.le_iff_eq_or_lt, BitVec.toInt_inj, ← he, ← hl, ← Bool.or_eq_true]
    rfl
  rw [t.cond_nb_eq_not_b, t.cond_a_eq_not_be, t.cond_ge_eq_not_l, t.cond_g_eq_not_le, t.cond_ne_eq_not_e]
  simp only [Bool.not_eq_true', ← Bool.not_eq_true, hb, hbe, he, hl, hle, Nat.not_lt, Nat.not_le, Int.not_lt, Int.not_le,
    ne_eq, and_self]

/-- Settles O30: every form of CMP writes the flags of a subtraction, which tell the order of the operands. -/
theorem conditionsCompareAfterCmp : Obligations.ConditionsCompareAfterCmp :=
  cmpWritesFlagsOnly.imp fun _ _ _ _ => conditionsCompare_of_writesFlagsOnly

/-! ## JMP (R340 to R343) -/

theorem jumpRel_spec (s : State) (disp : Word) :
    (s.jumpRel disp).reg .ip = s.reg .ip + disp ∧ Kept s (s.jumpRel disp) { regs := [.ip] } ∧
      (s.jumpRel disp).trace = s.trace :=
  ⟨by simp [State.jumpRel], kept_jumpRel s disp, rfl⟩

theorem jumpFar_spec (s : State) (off seg : Word) :
    (s.jumpFar off seg).reg .ip = off ∧ (s.jumpFar off seg).reg .cs = seg ∧
      Kept s (s.jumpFar off seg) { regs := [.ip, .cs] } ∧ (s.jumpFar off seg).trace = s.trace :=
  ⟨by simp [State.jumpFar], by simp [State.jumpFar], kept_jumpFar s off seg, rfl⟩

/-- A sign-extended displacement is added as a signed number, modulo 2^16. -/
theorem toNat_add_sext16 (w : Word) (d : Byte) : ((w + sext16 d).toNat : Int) = (w.toNat + d.toInt) % 2 ^ 16 := by
  have hsum : w + sext16 d = BitVec.ofInt 16 (w.toNat + d.toInt) := by
    rw [BitVec.ofInt_add, BitVec.ofInt_natCast, BitVec.ofNat_toNat, BitVec.setWidth_eq]
    rfl
  rw [hsum, BitVec.toNat_ofInt]
  exact Int.toNat_of_nonneg (Int.emod_nonneg _ (by decide))

/-- Settles O43: the relative jumps add to IP modulo 2^16, the far one writes IP and CS. -/
theorem jumpsSetTarget : Obligations.JumpsSetTarget := by
  refine ⟨fun disp s => ⟨_, rfl, ?rel8⟩, fun disp s => ⟨_, rfl, ?rel16⟩, fun off seg s => ⟨_, rfl, jumpFar_spec s off seg⟩⟩
  case rel8 =>
    obtain ⟨hip, hframe⟩ := jumpRel_spec s (sext16 disp)
    exact ⟨by rw [hip, toNat_add_sext16], hframe⟩
  case rel16 =>
    obtain ⟨hip, hframe⟩ := jumpRel_spec s disp
    exact ⟨by rw [hip, BitVec.toNat_add], hframe⟩

/-! ## Conditional jumps and loops (R344 to R363) -/

theorem jumpIf_spec (s : State) (c : Cond) (disp : Byte) :
    (s.jumpIf c disp).reg .ip = (if s.cond c then s.reg .ip + disp.signExtend 16 else s.reg .ip) ∧
      Kept s (s.jumpIf c disp) { regs := [.ip] } ∧ (s.jumpIf c disp).trace = s.trace := by
  refine ⟨?_, kept_jumpIf s c disp, ?_⟩ <;> unfold State.jumpIf <;> split
  · exact (jumpRel_spec s _).1
  all_goals rfl

/-- An instruction that is a jump on a condition jumps when the condition's predicate holds. -/
theorem jumpsWhen_of_exec {i : Byte → Instr} {holds : State → Bool} (c : Cond)
    (hexec : ∀ disp s, exec (i disp) s = .next (s.jumpIf c disp)) (hholds : ∀ s, s.cond c = holds s) :
    JumpsWhen i holds := by
  intro disp s
  rw [← hholds s]
  exact ⟨_, hexec disp s, jumpIf_spec s c disp⟩

/-- Settles O44: each conditional jump is `jumpIf` of its condition, which is the predicate of the table. -/
theorem conditionalJumpsFollowPredicates : Obligations.ConditionalJumpsFollowPredicates :=
  ⟨jumpsWhen_of_exec .o (fun _ _ => rfl) fun _ => rfl, jumpsWhen_of_exec .no (fun _ _ => rfl) fun _ => rfl,
    jumpsWhen_of_exec .b (fun _ _ => rfl) fun _ => rfl, jumpsWhen_of_exec .nb (fun _ _ => rfl) fun _ => rfl,
    jumpsWhen_of_exec .e (fun _ _ => rfl) fun _ => rfl, jumpsWhen_of_exec .ne (fun _ _ => rfl) fun _ => rfl,
    jumpsWhen_of_exec .be (fun _ _ => rfl) fun _ => rfl,
    jumpsWhen_of_exec .a (fun _ _ => rfl) State.cond_a_eq_not_be,
    jumpsWhen_of_exec .s (fun _ _ => rfl) fun _ => rfl, jumpsWhen_of_exec .ns (fun _ _ => rfl) fun _ => rfl,
    jumpsWhen_of_exec .p (fun _ _ => rfl) fun _ => rfl, jumpsWhen_of_exec .np (fun _ _ => rfl) fun _ => rfl,
    jumpsWhen_of_exec .l (fun _ _ => rfl) fun _ => rfl,
    jumpsWhen_of_exec .ge (fun _ _ => rfl) State.cond_ge_eq_not_l,
    jumpsWhen_of_exec .le (fun _ _ => rfl) fun _ => rfl,
    jumpsWhen_of_exec .g (fun _ _ => rfl) State.cond_g_eq_not_le⟩

theorem loop_spec (s : State) (extra : Bool) (disp : Byte) :
    let t := s.loop extra disp
    t.reg .cx = s.reg .cx - 1 ∧
      t.reg .ip = (if s.reg .cx ≠ 1 ∧ extra = true then s.reg .ip + disp.signExtend 16 else s.reg .ip) ∧
      Kept s t { regs := [.cx, .ip] } ∧ t.trace = s.trace := by
  intro t
  have hcx : s.reg .cx - 1 = 0 ↔ s.reg .cx = 1 := by bv_omega
  have ht : t = if s.reg .cx ≠ 1 ∧ extra = true then (s.setReg .cx (s.reg .cx - 1)).jumpRel (sext16 disp)
      else s.setReg .cx (s.reg .cx - 1) := by
    simp only [t, State.loop, State.reg_setReg, if_true, storedWord_of_ne, ne_eq, reduceCtorEq, not_false_eq_true, hcx]
  refine ⟨?_, ?_, kept_loop s extra disp, ?_⟩ <;> rw [ht] <;> split <;> simp [State.jumpRel, sext16]

/-- An instruction that is `loop` under a test of flags meets the claim of the loops. -/
theorem loopsWhen_of_exec {i : Byte → Instr} {extra : State → Bool}
    (hexec : ∀ disp s, exec (i disp) s = .next (s.loop (extra s) disp)) : LoopsWhen i extra := fun disp s =>
  ⟨_, hexec disp s, loop_spec s (extra s) disp⟩

/-- Settles O45: the three loops are one operation, each with its own test of ZF. -/
theorem loopsCountDown : Obligations.LoopsCountDown :=
  ⟨loopsWhen_of_exec fun _ _ => rfl, loopsWhen_of_exec fun _ _ => rfl, loopsWhen_of_exec fun _ _ => rfl⟩

/-! ## CALL (R370, R371) -/

theorem State.trace_push16 (s : State) (v : Word) :
    (s.push16 v).trace = s.trace ++ [.write (phys (s.reg .ss) (s.reg .sp - 2)) .word v] := by
  rw [State.push16_eq, State.trace_storeWord, State.setReg_trace]

theorem State.wordAt_push16_top (s : State) (v : Word) :
    (s.push16 v).wordAt (phys (s.reg .ss) (s.reg .sp - 2)) = v := by
  rw [State.push16_eq, State.wordAt_storeWord]

/-- The stack pointer after two words were pushed. -/
theorem sub_two_sub_two (w : Word) : w - 2 - 2 = w - 4 := by bv_omega

/-- Two words pushed one after the other. -/
theorem push16_push16_spec (s : State) (v w : Word) :
    let high := phys (s.reg .ss) (s.reg .sp - 2)
    let low := phys (s.reg .ss) (s.reg .sp - 4)
    let t := (s.push16 v).push16 w
    t.reg .sp = s.reg .sp - 4 ∧ t.wordAt high = v ∧ t.wordAt low = w ∧
      Kept s t { regs := [.sp], bytes := [high, high + 1, low, low + 1] } ∧
      t.trace = s.trace ++ [.write high .word v, .write low .word w] := by
  intro high low t
  have hlow : phys ((s.push16 v).reg .ss) ((s.push16 v).reg .sp - 2) = low := by
    rw [State.reg_push16_of_ne s v (by decide), State.reg_sp_push16, sub_two_sub_two]
  have hsecond := kept_push16 (s.push16 v) w
  rw [hlow] at hsecond
  refine ⟨?_, ?_, ?_, ?_, ?_⟩
  · rw [State.reg_sp_push16, State.reg_sp_push16, sub_two_sub_two]
  · calc t.wordAt high
        = t.wordAt (s.push16 v).stackTop := by rw [State.stackTop_push16]
      _ = (s.push16 v).popValue := State.wordAt_push16_stackTop _ _
      _ = v := State.popValue_push16 s v
  · rw [← hlow, State.wordAt_push16_top]
  · exact ((kept_push16 s v).trans hsecond).mono (by simp [Footprint.and]) (by simp [Footprint.and])
      (by simp [Footprint.and]) (by simp [Footprint.and, high])
  · rw [State.trace_push16, State.trace_push16, hlow, List.append_assoc]
    rfl

/-- Near CALL: Push16, then the relative jump. -/
theorem nearCall_spec (s : State) (disp : Word) :
    let top := phys (s.reg .ss) (s.reg .sp - 2)
    let t := (s.push16 (s.reg .ip)).jumpRel disp
    t.reg .sp = s.reg .sp - 2 ∧ t.wordAt top = s.reg .ip ∧ t.reg .ip = s.reg .ip + disp ∧
      Kept s t { regs := [.sp, .ip], bytes := [top, top + 1] } ∧ t.trace = s.trace ++ [.write top .word (s.reg .ip)] := by
  intro top t
  obtain ⟨hip, hkept, htrace⟩ := jumpRel_spec (s.push16 (s.reg .ip)) disp
  refine ⟨?_, s.wordAt_push16_top _, ?_, (kept_push16 s _).trans hkept, ?_⟩
  · rw [hkept.regs .sp (by decide) (by simp) (by simp), State.reg_sp_push16]
  · rw [hip, State.reg_push16_of_ne s _ (by decide)]
  · rw [htrace, State.trace_push16]

/-- Far CALL: CS and IP pushed, then the far jump. -/
theorem farCall_spec (s : State) (off seg : Word) :
    let high := phys (s.reg .ss) (s.reg .sp - 2)
    let low := phys (s.reg .ss) (s.reg .sp - 4)
    let t := ((s.push16 (s.reg .cs)).push16 (s.reg .ip)).jumpFar off seg
    t.reg .sp = s.reg .sp - 4 ∧ t.wordAt high = s.reg .cs ∧ t.wordAt low = s.reg .ip ∧
      t.reg .ip = off ∧ t.reg .cs = seg ∧
      Kept s t { regs := [.sp, .ip, .cs], bytes := [high, high + 1, low, low + 1] } ∧
      t.trace = s.trace ++ [.write high .word (s.reg .cs), .write low .word (s.reg .ip)] := by
  intro high low t
  obtain ⟨hsp, hhigh, hlow, hpushed, hwrites⟩ := push16_push16_spec s (s.reg .cs) (s.reg .ip)
  obtain ⟨hip, hcs, hkept, htrace⟩ := jumpFar_spec ((s.push16 (s.reg .cs)).push16 (s.reg .ip)) off seg
  refine ⟨?_, hhigh, hlow, hip, hcs, hpushed.trans hkept, htrace.trans hwrites⟩
  rw [hkept.regs .sp (by decide) (by simp) (by simp), hsp]

/-- Settles O46: each CALL is its pushes and then its jump, and the second push leaves the first word alone. -/
theorem callsPushReturnAddress : Obligations.CallsPushReturnAddress :=
  ⟨fun disp s => ⟨_, rfl, nearCall_spec s disp⟩, fun off seg s => ⟨_, rfl, farCall_spec s off seg⟩⟩

/-! ## RET, RETF and IRET (R372 to R379) -/

/-- The top of the stack after one word was popped. -/
theorem State.stackTop_popped (s : State) : s.popped.stackTop = phys (s.reg .ss) (s.reg .sp + 2) := by
  rw [State.stackTop, State.reg_popped_of_ne s (by decide), State.reg_sp_popped]

theorem State.popValue_popped (s : State) : s.popped.popValue = s.wordAt (phys (s.reg .ss) (s.reg .sp + 2)) := by
  rw [State.popValue, State.stackTop_popped, State.wordAt_popped]

/-- The stack pointer after two words were popped. -/
theorem add_two_add_two (w : Word) : w + 2 + 2 = w + 4 := by bv_omega

theorem State.trace_popped_popped (s : State) :
    s.popped.popped.trace =
      s.trace ++ [.read (phys (s.reg .ss) (s.reg .sp)) .word, .read (phys (s.reg .ss) (s.reg .sp + 2)) .word] := by
  rw [State.trace_popped, State.trace_popped, State.stackTop_popped, List.append_assoc]
  rfl

theorem State.dropBytes_zero (s : State) : s.dropBytes 0 = s := by
  simp [State.dropBytes, State.setReg, State.reg, RegFile.get, RegFile.put, storedWord]

theorem dropBytes_spec (s : State) (v : Word) :
    (s.dropBytes v).reg .sp = s.reg .sp + v ∧ (∀ r, r ≠ .sp → (s.dropBytes v).reg r = s.reg r) ∧
      Kept s (s.dropBytes v) { regs := [.sp] } ∧ (s.dropBytes v).trace = s.trace :=
  ⟨by simp [State.dropBytes], fun r hr => by simp [State.dropBytes, hr], kept_dropBytes s v, rfl⟩

/-- An instruction that is a near return which drops `extra` bytes more. -/
theorem returns_of_returnNear {i : Instr} {extra : Word} (hexec : ∀ s, exec i s = .next (s.returnNear.dropBytes extra)) :
    Returns i false extra := by
  intro s
  obtain ⟨hsp, hip⟩ := returnNear_spec s
  obtain ⟨hdrop, hother, hkept, htrace⟩ := dropBytes_spec s.returnNear extra
  refine ⟨_, hexec s, (hother .ip (by decide)).trans hip, ?_⟩
  rw [if_neg (by decide)]
  refine ⟨by rw [hdrop, hsp], ?_, htrace⟩
  exact ((kept_returnNear s).trans hkept).mono (by decide) (by decide) (by decide) (by simp [Footprint.and])

/-- An instruction that is a far return which drops `extra` bytes more. -/
theorem returns_of_returnFar {i : Instr} {extra : Word} (hexec : ∀ s, exec i s = .next (s.returnFar.dropBytes extra)) :
    Returns i true extra := by
  intro s
  obtain ⟨hsp, hip, hcs⟩ := returnFar_spec s
  obtain ⟨hdrop, hother, hkept, htrace⟩ := dropBytes_spec s.returnFar extra
  refine ⟨_, hexec s, (hother .ip (by decide)).trans hip, ?_⟩
  rw [if_pos rfl]
  refine ⟨(hother .cs (by decide)).trans hcs, by rw [hdrop, hsp, add_two_add_two], ?_, htrace.trans s.trace_popped_popped⟩
  exact ((kept_returnFar s).trans hkept).mono (by decide) (by decide) (by decide) (by simp [Footprint.and])

/-- Settles O47: every return pops its words and drops the operand's bytes, none in the forms without operand. -/
theorem returnsPopAddress : Obligations.ReturnsPopAddress :=
  ⟨returns_of_returnNear fun s => congrArg Host.Outcome.next s.returnNear.dropBytes_zero.symm,
    fun _ => returns_of_returnNear fun _ => rfl,
    returns_of_returnFar fun s => congrArg Host.Outcome.next s.returnFar.dropBytes_zero.symm,
    fun _ => returns_of_returnFar fun _ => rfl⟩

/-- IRET: three words popped one above the other, the third written to FLAGS through its mask. -/
theorem interruptReturn_spec (s : State) :
    let first := phys (s.reg .ss) (s.reg .sp)
    let second := phys (s.reg .ss) (s.reg .sp + 2)
    let third := phys (s.reg .ss) (s.reg .sp + 4)
    let t := s.interruptReturn
    t.reg .ip = s.wordAt first ∧ t.reg .cs = s.wordAt second ∧ t.reg .flags = s.wordAt third &&& 0x0FD5 ∧
      t.reg .sp = s.reg .sp + 6 ∧
      t.trace = s.trace ++ [.read first .word, .read second .word, .read third .word] := by
  intro first second third t
  have hthird : s.popped.popped.stackTop = third := by
    rw [State.stackTop_popped, State.reg_sp_popped, State.reg_popped_of_ne s (by decide), add_two_add_two]
  refine ⟨?_, ?_, ?_, ?_, ?_⟩
  · simp [t, State.interruptReturn, State.popValue, State.stackTop, first]
  · simp [t, State.interruptReturn, State.popValue_popped, second]
  · have hword : s.popped.popped.popValue = s.wordAt third := by rw [State.popValue, hthird]; rfl
    rw [← hword]
    exact State.reg_setReg _ .flags .flags _
  · have hsp : s.popped.popped.popped.reg .sp = s.reg .sp + 6 := by
      rw [State.reg_sp_popped, State.reg_sp_popped, State.reg_sp_popped, add_two_add_two]
      bv_omega
    rw [← hsp]
    simp [t, State.interruptReturn]
  · show s.popped.popped.popped.trace = _
    rw [State.trace_popped, State.trace_popped_popped, hthird, List.append_assoc]
    rfl

/-- Settles O48: the three words of `interruptReturn`, in the frame of the three pops and the three registers written. -/
theorem iretRestoresThree : Obligations.IretRestoresThree := by
  intro s
  obtain ⟨hip, hcs, hflags, hsp, htrace⟩ := interruptReturn_spec s
  exact ⟨_, rfl, hip, hcs, hflags, hsp,
    (kept_interruptReturn s).mono (by decide) (by decide) (by decide) (by decide), htrace⟩

/-! ## INT where no service of INT 21h runs (R378; 60_exceptions.md R424, R428) -/

/-- A fault saves nothing and changes nothing but the run state and its record (60_exceptions.md R423). -/
theorem faultedWith_raise (s : State) (k : FaultKind) : FaultedWith s (s.raise k) k [] where
  runState := rfl
  record := rfl
  regs _ := rfl
  bytes _ := rfl
  trace := (List.append_nil _).symm
  hostOut := rfl
  exitCode := rfl
  breakpoints := rfl
  params := rfl
  handlerEffects := rfl

/-- INT that no handler and no service takes. -/
theorem interrupt_unhandled {s : State} {n : Byte}
    (h : n ≠ 0x21 ∧ n ∉ s.params.intHandlers ∨ n = 0x21 ∧ s.reg8 .ah ∉ [(0x02 : Byte), 0x09, 0x4C]) :
    s.interrupt n = .next (s.unhandled n) := by
  rcases interrupt_cases s n with ⟨hn, ha, -⟩ | ⟨hn, ha, -⟩ | ⟨hn, ha, -⟩ | ⟨hn, hm, -⟩ | ⟨-, e⟩
  · simp [hn, ha] at h
  · simp [hn, ha] at h
  · simp [hn, ha] at h
  · rcases h with ⟨-, hm'⟩ | ⟨hn', -⟩
    · exact absurd hm hm'
    · exact absurd hn' hn
  · exact e

theorem interrupt_handled {s : State} {n : Byte} (hn : n ≠ 0x21) (hm : n ∈ s.params.intHandlers) :
    s.interrupt n = s.callHandler n := by
  rw [State.interrupt, if_neg hn, if_pos hm]

/-- Each action of a host handler is one write of a register, one event, or one store. -/
theorem handlerAct_actsAs (s : State) (action : HandlerAction) : ActsAs s (s.handlerAct action) action := by
  cases action with
  | writeReg r v =>
    refine ⟨?_, fun q hq => ?_, fun _ => rfl, ⟨rfl, rfl, rfl, rfl, rfl, rfl, rfl, rfl, rfl⟩, rfl⟩
    · by_cases hr : r = .flags
      · subst hr
        exact s.reg_setReg .flags .flags v
      · rw [State.handlerAct, State.reg_setReg, if_pos rfl, storedWord_of_ne hr, if_neg hr]
    · exact (s.reg_setReg r q v).trans (if_neg hq)
  | readMem a size => rfl
  | writeByte a v =>
    refine ⟨?_, fun b hb => ?_, fun _ => rfl, (kept_storeByte s a v).host, rfl⟩
    · exact (s.byteAt_storeByte a a v).trans (if_pos rfl)
    · exact (s.byteAt_storeByte a b v).trans (if_neg hb)
  | writeWord a v =>
    refine ⟨s.wordAt_storeWord a v, fun b hb hb1 => ?_, fun _ => rfl, (kept_storeWord s a v).host, rfl⟩
    exact (kept_storeWord s a v).bytes b (by simpa using ⟨hb, hb1⟩)

/-- Settles O55: `interrupt` goes to `unhandled` or to `callHandler`, whose cases are those of the statement. -/
theorem otherInterruptsFollowParameter : Obligations.OtherInterruptsFollowParameter := by
  intro s n
  refine ⟨fun h => ?unhandled, fun hn hm he => ?notGiven, fun hn hm actions halts rest he => ?given, handlerAct_actsAs s⟩
  case unhandled =>
    have hexec : exec (.intImm8 n) s = .next (s.unhandled n) := interrupt_unhandled h
    rw [hexec]
    rcases unhandled_cases s n with ⟨hp, hu⟩ | ⟨hp, hu⟩ <;> rw [hu, hp]
    · exact ⟨fun _ => ⟨_, rfl, faultedWith_raise s _⟩, nofun⟩
    · exact ⟨nofun, fun _ => rfl⟩
  case notGiven => exact (interrupt_handled hn hm).trans (callHandler_notGiven s n he)
  case given => exact (interrupt_handled hn hm).trans (callHandler_given s n he)

end Sys2Proof.Machine

/-! SUPPORT. A refused encoding, the host's calls and `load` (60_exceptions.md R421, R441; 70_reset_and_hazards.md R460, R463; 20_memory.md R80): bytes laid one after another put the last of those that fall on an address there. -/

namespace Sys2Proof.Machine

/-! ## A refused encoding (60_exceptions.md R421) -/

/-- Settles O16: the attempt emits the execute event and clears the latch, and the fault saves nothing. -/
theorem refusedEncodingFaults : Obligations.RefusedEncodingFaults := by
  intro s e hc hb hd
  refine ⟨_, (step_attempt hc hb).trans (attempt_error hd), ?_, rfl, rfl, rfl⟩
  exact ⟨rfl, rfl, fun _ => rfl, fun _ => rfl, rfl, rfl, rfl, rfl, rfl, rfl⟩

/-! ## The invariant over the host's calls -/

/-- A call that keeps the control state and what is well formed keeps the invariant. -/
theorem Continues.inv {s t : State} (h : Continues s t) (hs : s.Inv) : t.Inv where
  memWf := h.memWf hs.memWf
  flagsReserved := h.flagsReserved hs.flagsReserved
  notRunning := h.runState ▸ hs.notRunning
  faultRecorded := h.runState ▸ h.faultRecord ▸ hs.faultRecorded
  exitHalted := h.runState ▸ h.exitCode ▸ hs.exitHalted
  latchPaused := h.runState ▸ h.bpResume ▸ hs.latchPaused
  breakpointsRising := h.breakpoints ▸ hs.breakpointsRising

theorem kept_putBytes (s : State) (a : PAddr) (bs : List Byte) : ∃ l, Kept s (s.putBytes a bs) { bytes := l } := by
  induction bs generalizing s a with
  | nil => exact ⟨[], Kept.refl s⟩
  | cons b bs ih =>
    obtain ⟨l, hl⟩ := ih (s.putByte a b) (a + 1)
    exact ⟨_, (kept_putByte s a b).trans hl⟩

theorem putBytes_continues (s : State) (a : PAddr) (bs : List Byte) : Continues s (s.putBytes a bs) :=
  have ⟨_, h⟩ := kept_putBytes s a bs
  h.continues

theorem load_continues (s : State) (p : Program) : Continues s (s.load p) :=
  ((((putBytes_continues s _ p.code).trans (putBytes_continues _ _ p.data)).trans
    (kept_setReg _ .ip _ (by decide)).continues).trans (kept_setReg_flags _ _).continues).trans
    (kept_setReg _ .sp _ (by decide)).continues

/-- Reset keeps only the host's records, parameters and answers, of which the invariant says nothing. -/
theorem hostReset_inv (s : State) : s.hostReset.Inv :=
  have h := resetMeetsInvariant
  ⟨h.memWf, h.flagsReserved, h.notRunning, h.faultRecorded, h.exitHalted, h.latchPaused, h.breakpointsRising⟩

theorem State.Inv.setBreakpoints {s : State} (h : s.Inv) {l : List PAddr} (hl : l.Pairwise (fun f g => f < g)) :
    { s with breakpoints := l }.Inv :=
  ⟨h.memWf, h.flagsReserved, h.notRunning, h.faultRecorded, h.exitHalted, h.latchPaused, hl⟩

/-- Settles O10: the breakpoint calls by the rules of the rising list, `load` and `write_memory` because they continue. -/
theorem hostCallsKeepInvariant : Obligations.HostCallsKeepInvariant := by
  refine ⟨fun s f g => ⟨mem_insertRising, ?_, rfl, rfl⟩, fun s h => ⟨hostReset_inv s, ?_, ?_, ?_, ?_⟩⟩
  · simp [State.removeBreakpoint, and_comm]
  · exact fun p => (load_continues s p).inv h
  · exact fun f => h.setBreakpoints (insertRising_rising h.breakpointsRising f)
  · exact fun f => h.setBreakpoints (h.breakpointsRising.filter _)
  · exact fun a bs => (putBytes_continues s a bs).inv h

/-! ## load (70_reset_and_hazards.md R463) -/

theorem putBytes_append_singleton (s : State) (a : PAddr) (bs : List Byte) (b : Byte) :
    s.putBytes a (bs ++ [b]) = (s.putBytes a bs).putByte (a + BitVec.ofNat 20 bs.length) b := by
  induction bs generalizing s a with
  | nil => simp [State.putBytes]
  | cons c bs ih =>
    have haddr : a + 1 + BitVec.ofNat 20 bs.length = a + BitVec.ofNat 20 (bs.length + 1) := by
      rw [BitVec.ofNat_add, BitVec.add_assoc, BitVec.add_comm 1]
      rfl
    exact (ih (s.putByte a c) (a + 1)).trans (by rw [haddr]; rfl)

theorem imageByte_append_singleton (base a : PAddr) (bs : List Byte) (b : Byte) :
    imageByte base (bs ++ [b]) a = if base + BitVec.ofNat 20 bs.length = a then some b else imageByte base bs a := by
  have hinit : ∀ (found : Option Byte), ∀ i ∈ List.range bs.length,
      (if base + BitVec.ofNat 20 i = a then (bs ++ [b])[i]? else found) =
        if base + BitVec.ofNat 20 i = a then bs[i]? else found := fun found i hi => by
    rw [List.getElem?_append_left (List.mem_range.mp hi)]
  simp only [imageByte, List.length_append, List.length_singleton, List.range_succ, List.foldl_append, List.foldl_cons,
    List.foldl_nil, List.getElem?_concat_length]
  rw [List.foldl_ext _ _ _ hinit]

/-- Bytes laid from an address on show as their image does, over what was there. -/
theorem byteAt_putBytes (s : State) (base a : PAddr) (bs : List Byte) :
    (s.putBytes base bs).byteAt a = (imageByte base bs a).getD (s.byteAt a) := by
  induction bs using List.reverseRecOn with
  | nil => rfl
  | append_singleton bs b ih =>
    rw [putBytes_append_singleton, State.byteAt_putByte, imageByte_append_singleton, ih]
    by_cases h : base + BitVec.ofNat 20 bs.length = a
    · simp [h]
    · rw [if_neg h, if_neg (Ne.symm h)]

theorem State.reg_putBytes (s : State) (a : PAddr) (bs : List Byte) (r : RegId) : (s.putBytes a bs).reg r = s.reg r := by
  rw [putBytes_eq]
  rfl

theorem State.reg_load (s : State) (p : Program) (r : RegId) :
    (s.load p).reg r = if r = .sp then 0x00FF else if r = .flags then 0 else if r = .ip then p.entryOffset else s.reg r := by
  simp [State.load, State.reg_putBytes, Config.resetSp]

/-- Settles O11: the data lies over the code and the code over memory, and three registers are written. -/
theorem loadPlacesProgram : Obligations.LoadPlacesProgram := by
  intro s p
  have hregs := s.reg_load p
  refine ⟨fun a => ?_, by simp [hregs], by simp [hregs], by simp [hregs], fun r hr => ?_, ?_, ?_⟩
  · show ((s.putBytes _ p.code).putBytes _ p.data).byteAt a = _
    rw [byteAt_putBytes, byteAt_putBytes]
    cases imageByte (phys (s.reg .ds) 0) p.data a <;> rfl
  · simp only [List.mem_cons, List.not_mem_nil, or_false, not_or] at hr
    obtain ⟨hip, hflags, hsp⟩ := hr
    rw [hregs, if_neg hsp, if_neg hflags, if_neg hip]
  · obtain ⟨_, hcode⟩ := kept_putBytes s (phys (s.reg .cs) 0) p.code
    obtain ⟨_, hdata⟩ := kept_putBytes (s.putBytes (phys (s.reg .cs) 0) p.code) (phys (s.reg .ds) 0) p.data
    exact (hcode.host.trans hdata.host).trans ⟨rfl, rfl, rfl, rfl, rfl, rfl, rfl, rfl, rfl⟩
  · show ((s.putBytes _ p.code).putBytes _ p.data).trace = s.trace
    rw [putBytes_eq, putBytes_eq]

end Sys2Proof.Machine

/-! SUPPORT. The services of INT 21h, and which instructions can fault or stop the model (60_exceptions.md R420 to R433): a string is sent byte by byte until a byte 0x24 or a refusal, and the first of these within the bound is where it ends. -/

namespace Sys2Proof.Machine

/-! ## Functions 02h and 4Ch (R431, R433) -/

theorem interrupt_outputChar {s : State} (h : s.reg8 .ah = 0x02) : s.interrupt 0x21 = .next s.outputChar := by
  rw [State.interrupt, if_pos rfl, State.int21, if_pos h]

theorem interrupt_outputString {s : State} (h : s.reg8 .ah = 0x09) :
    s.interrupt 0x21 = s.outputString s.outputBound (s.reg .dx) := by
  rw [State.interrupt, if_pos rfl, State.int21, if_neg (by rw [h]; decide), if_pos h]

theorem interrupt_exit {s : State} (h : s.reg8 .ah = 0x4C) : s.interrupt 0x21 = .next s.exit := by
  rw [State.interrupt, if_pos rfl, State.int21, if_neg (by rw [h]; decide), if_neg (by rw [h]; decide), if_pos h]

theorem outputChar_sends {s : State} (h : s.outAnswers.head? ≠ some .ioError) :
    s.outputChar = { s with hostOut := s.hostOut ++ [s.reg8 .dl], outAnswers := s.outAnswers.tail } := by
  rw [State.outputChar, hostOutByte_ok s _ h]

theorem outputChar_refused {s : State} (h : s.outAnswers.head? = some .ioError) :
    s.outputChar = State.raise { s with outAnswers := s.outAnswers.tail } .ioError := by
  rw [State.outputChar, hostOutByte_ioError s _ h]

/-- A refusal of the host uses up answers, and the reads before it stay in the trace (R425). -/
theorem faultedWith_refused (s : State) (answers : List OutAnswer) (events : List Event) :
    FaultedWith s (State.raise { s with outAnswers := answers, trace := s.trace ++ events } .ioError) .ioError events :=
  ⟨rfl, rfl, fun _ => rfl, fun _ => rfl, rfl, rfl, rfl, rfl, rfl, rfl⟩

/-- Settles O52: by the answer of the host for function 02h; function 4Ch is `State.exit`. -/
theorem int21CharacterAndExit : Obligations.Int21CharacterAndExit := by
  intro s
  refine ⟨fun h hok => ?sends, fun h hio => ?refused, fun h => ⟨_, interrupt_exit h, rfl, rfl⟩⟩
  case sends => exact ⟨_, (interrupt_outputChar h).trans (congrArg _ (outputChar_sends hok)), rfl⟩
  case refused =>
    refine ⟨_, (interrupt_outputChar h).trans (congrArg _ (outputChar_refused hio)), ?_, rfl⟩
    simpa using faultedWith_refused s s.outAnswers.tail []

/-! ## Function 09h (R432) -/

/-- The address of byte `k` of the string, its offset wrapping in the segment. -/
def State.outputAddr (s : State) (k : Nat) : PAddr := phys (s.reg .ds) (s.reg .dx + BitVec.ofNat 16 k)

/-- The state after `k` bytes of the string were read and sent. -/
def State.afterSending (s : State) (k : Nat) : State :=
  { s with
    hostOut := s.hostOut ++ (List.range k).map fun j => s.byteAt (s.outputAddr j)
    outAnswers := s.outAnswers.drop k
    trace := s.trace ++ (List.range k).map fun j => Event.read (s.outputAddr j) .byte }

theorem State.afterSending_zero (s : State) : s.afterSending 0 = s := by
  simp [State.afterSending]

/-- The `k`-th byte of the string is not 0x24 and the host's answer to it is no refusal. -/
def State.SendsAt (s : State) (k : Nat) : Prop := s.byteAt (s.outputAddr k) ≠ 0x24 ∧ s.outAnswers[k]? ≠ some .ioError

theorem State.head?_outAnswers_afterSending (s : State) (k : Nat) : (s.afterSending k).outAnswers.head? = s.outAnswers[k]? :=
  List.head?_drop

/-- While the bytes are sent, the string goes on from the next offset. -/
theorem outputString_afterSending {s : State} {k : Nat} (h : ∀ j, j < k → s.SendsAt j) (fuel : Nat) :
    s.outputString (fuel + k) (s.reg .dx) =
      (s.afterSending k).outputString fuel (s.reg .dx + BitVec.ofNat 16 k) := by
  induction k generalizing fuel with
  | zero => rw [State.afterSending_zero]; simp
  | succ k ih =>
    obtain ⟨hbyte, hanswer⟩ := h k (Nat.lt_succ_self k)
    have hoff : s.reg .dx + BitVec.ofNat 16 k + 1 = s.reg .dx + BitVec.ofNat 16 (k + 1) := by
      rw [BitVec.ofNat_add, BitVec.add_assoc]
      rfl
    have hone := outputString_sends (s.afterSending k) fuel (s.reg .dx + BitVec.ofNat 16 k) hbyte
      (by rwa [State.head?_outAnswers_afterSending])
    rw [← Nat.add_assoc, Nat.add_right_comm, ih (fun j hj => h j (Nat.lt_succ_of_lt hj)), hone, hoff]
    congr 1
    simp only [State.afterSending, List.range_succ, List.map_append, List.append_assoc, List.tail_drop]
    rfl

/-- At the first byte 0x24 the string ends. -/
theorem outputString_dollarAt {s : State} {k : Nat} (h : ∀ j, j < k → s.SendsAt j) (hd : s.byteAt (s.outputAddr k) = 0x24)
    (fuel : Nat) : s.outputString (fuel + 1 + k) (s.reg .dx) =
      .next ((s.afterSending k).emit (.read (s.outputAddr k) .byte)) := by
  rw [outputString_afterSending h]
  exact outputString_dollar (s.afterSending k) _ _ hd

/-- At the first refused byte the string ends with IoError. -/
theorem outputString_refusedAt {s : State} {k : Nat} (h : ∀ j, j < k → s.SendsAt j)
    (hd : s.byteAt (s.outputAddr k) ≠ 0x24) (ha : s.outAnswers[k]? = some .ioError) (fuel : Nat) :
    s.outputString (fuel + 1 + k) (s.reg .dx) =
      .next (State.raise { s.afterSending k with
        trace := (s.afterSending k).trace ++ [.read (s.outputAddr k) .byte]
        outAnswers := (s.afterSending k).outAnswers.tail } .ioError) := by
  rw [outputString_afterSending h]
  exact outputString_refused (s.afterSending k) _ _ hd (by rwa [State.head?_outAnswers_afterSending])

/-- The offsets of a segment repeat after 65536. -/
theorem State.outputAddr_mod (s : State) (k : Nat) : s.outputAddr (k % Config.segmentOffsets) = s.outputAddr k := by
  rw [State.outputAddr, State.outputAddr, show BitVec.ofNat 16 (k % Config.segmentOffsets) = BitVec.ofNat 16 k from
    BitVec.eq_of_toNat_eq (by simp [Config.segmentOffsets])]

/-- A first byte 0x24 stands within the 65536 offsets of the segment. -/
theorem lt_segmentOffsets_of_firstDollar {s : State} {k : Nat} (h : ∀ j, j < k → s.SendsAt j)
    (hd : s.byteAt (s.outputAddr k) = 0x24) : k < Config.segmentOffsets := by
  by_contra hk
  have hpos : 0 < Config.segmentOffsets := by decide
  have hlt : k % Config.segmentOffsets < k := Nat.lt_of_lt_of_le (Nat.mod_lt k hpos) (Nat.le_of_not_lt hk)
  obtain ⟨hbyte, -⟩ := h _ hlt
  exact hbyte (s.outputAddr_mod k ▸ hd)

/-- A first byte 0x24 is within the bound of the loop, and so is a first refusal. -/
theorem lt_outputBound {s : State} {k : Nat} (h : ∀ j, j < k → s.SendsAt j) (hk : ¬ s.SendsAt k) : k < s.outputBound := by
  rw [State.outputBound]
  by_cases hd : s.byteAt (s.outputAddr k) = 0x24
  · exact Nat.lt_add_right _ (lt_segmentOffsets_of_firstDollar h hd)
  · have ha : s.outAnswers[k]? = some .ioError := not_not.mp fun ha => hk ⟨hd, ha⟩
    exact Nat.lt_add_left _ (List.getElem?_eq_some_iff.mp ha).1

theorem outputBound_eq_add {s : State} {k : Nat} (h : ∀ j, j < k → s.SendsAt j) (hk : ¬ s.SendsAt k) :
    ∃ fuel, s.outputBound = fuel + 1 + k :=
  ⟨s.outputBound - (k + 1), by have := lt_outputBound h hk; omega⟩

/-- Settles O53: the bytes before the end are sent, and the end is within the bound. -/
theorem int21SendsString : Obligations.Int21SendsString := by
  intro s count hah addr sent reads hbytes hanswers
  have hsends : ∀ j, j < count → s.SendsAt j := fun j hj => ⟨hbytes j hj, hanswers j hj⟩
  have hreads : reads = (List.range count).map (fun j => Event.read (s.outputAddr j) .byte) ++
      [.read (s.outputAddr count) .byte] := by
    simp only [reads, List.range_succ, List.map_append]
    rfl
  refine ⟨fun hd => ?dollar, fun hd ha => ?refused⟩
  case dollar =>
    obtain ⟨fuel, hfuel⟩ := outputBound_eq_add hsends fun h => h.1 hd
    refine ⟨_, (interrupt_outputString hah).trans (hfuel ▸ outputString_dollarAt hsends hd fuel), ?_⟩
    rw [hreads, ← List.append_assoc]
    rfl
  case refused =>
    obtain ⟨fuel, hfuel⟩ := outputBound_eq_add hsends fun h => h.2 ha
    refine ⟨_, (interrupt_outputString hah).trans (hfuel ▸ outputString_refusedAt hsends hd ha fuel), ?_, List.tail_drop⟩
    rw [hreads]
    have htrace := List.append_assoc s.trace ((List.range count).map fun j => Event.read (s.outputAddr j) .byte)
      [.read (s.outputAddr count) .byte]
    simp only [State.afterSending, htrace]
    exact faultedWith_refused { s with hostOut := s.hostOut ++ sent } _ _

/-- A string of which every byte is sent uses up any bound. -/
theorem outputString_neverEnds {s : State} (h : ∀ j, s.SendsAt j) (fuel : Nat) :
    s.outputString fuel (s.reg .dx) = .fault .outputStringNeverEnds := by
  have e := outputString_afterSending (k := fuel) (fun j _ => h j) 0
  rw [Nat.zero_add] at e
  exact e

/-- A string of which some byte is not sent ends at the first such byte. -/
theorem outputString_ends_of_not_sendsAt {s : State} {k : Nat} (hk : ¬ s.SendsAt k) :
    ∃ t, s.outputString s.outputBound (s.reg .dx) = .next t := by
  classical
  have hex : ∃ k, ¬ s.SendsAt k := ⟨k, hk⟩
  have hbefore : ∀ j, j < Nat.find hex → s.SendsAt j := fun j hj => not_not.mp (Nat.find_min hex hj)
  have hfirst := Nat.find_spec hex
  obtain ⟨fuel, hfuel⟩ := outputBound_eq_add hbefore hfirst
  rw [hfuel]
  by_cases hd : s.byteAt (s.outputAddr (Nat.find hex)) = 0x24
  · exact ⟨_, outputString_dollarAt hbefore hd fuel⟩
  · exact ⟨_, outputString_refusedAt hbefore hd (not_not.mp fun ha => hfirst ⟨hd, ha⟩) fuel⟩

/-- Every offset of the segment in DS is that of some byte of the string. -/
theorem State.exists_outputAddr (s : State) (off : Word) : ∃ k, s.outputAddr k = phys (s.reg .ds) off :=
  ⟨(off - s.reg .dx).toNat, by rw [State.outputAddr, BitVec.ofNat_toNat, BitVec.setWidth_eq, BitVec.add_comm,
    BitVec.sub_add_cancel]⟩

/-- Every byte of the string is sent exactly when no offset of the segment holds 0x24 and no answer is a refusal. -/
theorem State.forall_sendsAt_iff (s : State) : (∀ k, s.SendsAt k) ↔
    (∀ off : Word, s.byteAt (phys (s.reg .ds) off) ≠ 0x24) ∧ OutAnswer.ioError ∉ s.outAnswers := by
  constructor
  · intro h
    refine ⟨fun off => ?_, fun hm => ?_⟩
    · obtain ⟨k, hk⟩ := s.exists_outputAddr off
      exact hk ▸ (h k).1
    · obtain ⟨k, hk⟩ := List.mem_iff_getElem?.mp hm
      exact (h k).2 hk
  · exact fun ⟨hbytes, hanswers⟩ k => ⟨hbytes _, fun hk => hanswers (List.mem_of_getElem? hk)⟩

/-- Settles O54: the loop uses up its bound exactly when every byte of the string is sent. -/
theorem stringWithoutEndIsStuck : Obligations.StringWithoutEndIsStuck := by
  intro s hah
  have hexec : exec (.intImm8 0x21) s = s.outputString s.outputBound (s.reg .dx) := interrupt_outputString hah
  rw [hexec, ← s.forall_sendsAt_iff]
  refine ⟨fun hfault k => ?_, fun h => outputString_neverEnds h _⟩
  by_contra hk
  obtain ⟨t, ht⟩ := outputString_ends_of_not_sendsAt hk
  cases hfault.symm.trans ht

end Sys2Proof.Machine

/-! SUPPORT. Which instructions can fault or stop the model (60_exceptions.md R420, R429): every instruction is divided by how it can end, and only DIV, IDIV and INT have an end that is Faulted. -/

namespace Sys2Proof.Machine

/-- The table of fault kinds, with the instruction that raises each once it is decoded (R422, R424, R425). -/
inductive FaultSource (s : State) : Instr → FaultKind → Prop where
  | divByte (o : Rm8) : FaultSource s (.divRm8 o) .divideError
  | divWord (o : Rm16) : FaultSource s (.divRm16 o) .divideError
  | idivByte (o : Rm8) : FaultSource s (.idivRm8 o) .divideError
  | idivWord (o : Rm16) : FaultSource s (.idivRm16 o) .divideError
  | output : FaultSource s (.intImm8 0x21) .ioError
  | unhandled (n : Byte) (h : s.params.unhandledInt = .fault) :
      FaultSource s (.intImm8 n) (.unhandledInterrupt n (s.reg8 .ah))

/-- The ways `i` can end from `s`: not Faulted, Faulted by the table, in the dead end of INT 21h, or refused for want of a handler's effect. -/
inductive EndsByTable (s : State) (i : Instr) : Host.Outcome State Fault Refusal → Prop where
  | unfaulted {t : State} (h : t.runState ≠ .faulted) : EndsByTable s i (.next t)
  | faulted {t : State} {k : FaultKind} (hk : FaultSource s i k) (h : t.faultRecord = some k) : EndsByTable s i (.next t)
  | stuck (f : Fault) (hi : i = .intImm8 0x21) (hah : s.reg8 .ah = 0x09) : EndsByTable s i (.fault f)
  | noEffect (n : Byte) (hi : i = .intImm8 n) (hn : n ∈ s.params.intHandlers) :
      EndsByTable s i (.refused (.handlerEffectNotGiven n))

section

variable {s : State} (hs : s.runState = .running)

include hs

theorem ne_faulted_of_kept {t : State} {f : Footprint} (h : Kept s t f) : t.runState ≠ .faulted := by
  rw [h.host.runState, hs]
  decide

/-- The shape of every division: no divisor, a quotient that does not fit, or the results written. -/
theorem endsByTable_ite {u : State} {i : Instr} {n : Nat} {p : Place n} {c d : Prop} [Decidable c] [Decidable d]
    (hi : FaultSource s i .divideError) (hu : Kept s u divisionFootprint) :
    EndsByTable s i (if c then .next ((s.noteRead p).raise .divideError)
      else if d then .next ((s.noteRead p).raise .divideError) else .next u) := by
  split
  · exact .faulted hi rfl
  · split
    · exact .faulted hi rfl
    · exact .unfaulted (ne_faulted_of_kept hs hu)

theorem outputChar_endsByTable : EndsByTable s (.intImm8 0x21) (.next s.outputChar) := by
  by_cases h : s.outAnswers.head? = some .ioError
  · rw [outputChar_refused h]
    exact .faulted .output rfl
  · rw [outputChar_sends h]
    exact .unfaulted (show s.runState ≠ .faulted by rw [hs]; decide)

/-- The loop of function 09h ends with the last byte, with a refusal, or in the dead end. -/
theorem outputString_endsByTable {u : State} (hah : u.reg8 .ah = 0x09) (k : Nat) (off : Word) :
    EndsByTable u (.intImm8 0x21) (s.outputString k off) := by
  induction k generalizing s off with
  | zero => exact .stuck _ rfl hah
  | succ k ih =>
    by_cases hd : s.byteAt (phys (s.reg .ds) off) = 0x24
    · rw [outputString_dollar _ _ _ hd]
      exact .unfaulted (ne_faulted_of_kept hs (kept_emit s _))
    · by_cases ha : s.outAnswers.head? = some .ioError
      · rw [outputString_refused _ _ _ hd ha]
        exact .faulted .output rfl
      · rw [outputString_sends _ _ _ hd ha]
        exact ih (by exact hs) _

theorem callHandler_endsByTable {n : Byte} (hn : n ∈ s.params.intHandlers) :
    EndsByTable s (.intImm8 n) (s.callHandler n) := by
  cases he : s.handlerEffects with
  | nil =>
    rw [callHandler_notGiven _ _ he]
    exact .noEffect n rfl hn
  | cons e rest =>
    have hrun : (e.actions.foldl State.handlerAct { s with handlerEffects := rest }).runState = .running :=
      (handlerActs_continue e.actions _).runState.trans hs
    rw [callHandler_given _ _ he]
    split
    · exact .unfaulted nofun
    · exact .unfaulted (by rw [hrun]; decide)

theorem unhandled_endsByTable (n : Byte) : EndsByTable s (.intImm8 n) (.next (s.unhandled n)) := by
  rcases unhandled_cases s n with ⟨hp, h⟩ | ⟨-, h⟩ <;> rw [h]
  · exact .faulted (.unhandled n hp) rfl
  · exact .unfaulted (by rw [hs]; decide)

theorem interrupt_endsByTable (n : Byte) : EndsByTable s (.intImm8 n) (s.interrupt n) := by
  rcases interrupt_cases s n with ⟨rfl, -, e⟩ | ⟨rfl, hah, e⟩ | ⟨rfl, -, e⟩ | ⟨-, hn, e⟩ | ⟨-, e⟩ <;> rw [e]
  · exact outputChar_endsByTable hs
  · exact outputString_endsByTable hs hah _ _
  · exact .unfaulted nofun
  · exact callHandler_endsByTable hs hn
  · exact unhandled_endsByTable hs n

/-- How every instruction can end, from a core that is Running. -/
theorem exec_endsByTable (i : Instr) : EndsByTable s i (exec i s) := by
  cases hm : mayStop i with
  | false =>
    obtain ⟨t, f, ht, hk⟩ := exec_kept i hm s
    rw [ht]
    exact .unfaulted (ne_faulted_of_kept hs hk)
  | true =>
    rcases mayStop_cases hm with ⟨o, rfl⟩ | ⟨o, rfl⟩ | ⟨o, rfl⟩ | ⟨o, rfl⟩ | ⟨n, rfl⟩ | rfl
    · exact endsByTable_ite hs (.divByte o) (kept_quotient8 s _ _ _)
    · exact endsByTable_ite hs (.divWord o) (kept_quotient16 s _ _ _)
    · exact endsByTable_ite hs (.idivByte o) (kept_quotient8 s _ _ _)
    · exact endsByTable_ite hs (.idivWord o) (kept_quotient16 s _ _ _)
    · exact interrupt_endsByTable hs n
    · exact .unfaulted nofun

end

/-- The instructions and kinds of the table, as the statement lists them. -/
theorem FaultSource.cases {s : State} {i : Instr} {k : FaultKind} (h : FaultSource s i k) :
    (k = .divideError ∧ ∃ o8 o16, i ∈ [Instr.divRm8 o8, .divRm16 o16, .idivRm8 o8, .idivRm16 o16]) ∨
    (∃ n, i = .intImm8 n ∧
      (k = .ioError ∧ n = 0x21 ∨ k = .unhandledInterrupt n (s.reg8 .ah) ∧ s.params.unhandledInt = .fault)) := by
  cases h with
  | divByte o | idivByte o => exact .inl ⟨rfl, o, .reg .ax, by simp⟩
  | divWord o | idivWord o => exact .inl ⟨rfl, .reg .al, o, by simp⟩
  | output => exact .inr ⟨_, rfl, .inl ⟨rfl, rfl⟩⟩
  | unhandled n hp => exact .inr ⟨n, rfl, .inr ⟨rfl, hp⟩⟩

/-- Settles O58: each of the ways an instruction can end is one of the statement's. -/
theorem onlyDivideAndIntStop : Obligations.OnlyDivideAndIntStop := by
  intro i s hs
  have hends := exec_endsByTable hs i
  refine ⟨fun t ht hfaulted => ?next, fun f hf => ?fault, fun f hf => ?refused⟩
  case next =>
    rw [ht] at hends
    cases hends with
    | unfaulted h => exact absurd hfaulted h
    | faulted hk h =>
      rw [h]
      simpa only [Option.some.injEq] using hk.cases
  case fault =>
    rw [hf] at hends
    cases hends with
    | stuck _ hi hah => exact ⟨hi, hah⟩
  case refused =>
    rw [hf] at hends
    cases hends with
    | noEffect n hi hn => exact ⟨n, hi, hn, rfl⟩

end Sys2Proof.Machine

/-! SUPPORT. The string instructions and their repetition (49_string.md R390 to R405): one iteration is a MOV or a CMP followed by the pointers moved, and the repetition is so many iterations, after which the pointers stand at the next element and memory holds the last byte stored at each address. -/

namespace Sys2Proof.Machine

/-! ## The pointers moved (R390) -/

theorem State.stringDelta_eq_pointerStep (s : State) (size : Word) : s.stringDelta size = pointerStep s size := by
  simp [State.stringDelta, pointerStep]

theorem pointerStep_zero (s : State) : pointerStep s 0 = 0 := by
  simp [pointerStep]

/-- The pointers alone differ, each moved by `d`. -/
structure Bumps (s t : State) (d : Word) (ptrs : List RegId) : Prop where
  moved : ∀ p ∈ ptrs, t.reg p = s.reg p + d
  kept : Kept s t { regs := ptrs }
  trace : t.trace = s.trace

theorem bumpSi_bumps (s : State) (d : Word) : Bumps s (s.bumpSi d) d [.si] :=
  ⟨by simp [State.bumpSi], kept_bumpSi s d, rfl⟩

theorem bumpDi_bumps (s : State) (d : Word) : Bumps s (s.bumpDi d) d [.di] :=
  ⟨by simp [State.bumpDi], kept_bumpDi s d, rfl⟩

theorem bumpSi_bumpDi_bumps (s : State) (d : Word) : Bumps s ((s.bumpSi d).bumpDi d) d [.si, .di] :=
  ⟨by simp [State.bumpSi, State.bumpDi], (kept_bumpSi s d).trans (kept_bumpDi _ d), rfl⟩

/-- Writing the place changes none of the registers in `l`. -/
def Place.Avoids {n : Nat} (p : Place n) (l : List RegId) : Prop :=
  ∀ r ∈ l, r ≠ .flags ∧ r ∉ p.footprint.regs ∧ ∀ h ∈ p.footprint.halves, Reg8.parent h ≠ r

theorem Place.Avoids.mono {n : Nat} {p : Place n} {l m : List RegId} (h : p.Avoids m) (hl : l ⊆ m) : p.Avoids l :=
  fun r hr => h r (hl hr)

theorem Place.avoids_byteAt (a : PAddr) : (Place.byteAt a).Avoids [.si, .di] := by simp [Place.Avoids, Place.footprint]
theorem Place.avoids_wordAt (a : PAddr) : (Place.wordAt a).Avoids [.si, .di] := by simp [Place.Avoids, Place.footprint]
theorem placeAl_avoids : placeAl.Avoids [.si, .di] := by unfold Place.Avoids; decide
theorem placeAx_avoids : placeAx.Avoids [.si, .di] := by unfold Place.Avoids; decide

/-- A place that avoids the registers that changed holds what it held. -/
theorem Kept.valueOf_of_avoids {s t : State} {l : List RegId} (h : Kept s t { regs := l }) {n : Nat} {p : Place n}
    (hp : p.plain) (ha : p.Avoids l) : t.valueOf p = s.valueOf p := by
  cases p with
  | reg8 r =>
    refine h.halves r nofun fun hm => ?_
    obtain ⟨-, -, hne⟩ := ha _ hm
    exact hne r (by simp [Place.footprint]) rfl
  | reg r =>
    refine h.regs r hp (fun hm => ?_) nofun
    obtain ⟨-, hne, -⟩ := ha _ hm
    exact hne (by simp [Place.footprint])
  | byteAt a => exact h.bytes a nofun
  | wordAt a => exact State.wordAt_congr (fun b => h.bytes b nofun) a

theorem Kept.and_comm {s t : State} {f g : Footprint} (h : Kept s t (f.and g)) : Kept s t (g.and f) := by
  have hswap {α : Type} (l m : List α) : l ++ m ⊆ m ++ l :=
    List.append_subset.2 ⟨List.subset_append_right _ _, List.subset_append_left _ _⟩
  exact h.mono (hswap _ _) (hswap _ _) (hswap _ _) (hswap _ _)

theorem reg_move_of_avoids (s : State) {n : Nat} {dst : Place n} (src : Source n) (hp : dst.plain) {l : List RegId}
    (ha : dst.Avoids l) {r : RegId} (hr : r ∈ l) : (s.move dst src).reg r = s.reg r := by
  obtain ⟨hflags, hregs, hhalves⟩ := ha r hr
  exact (kept_move s dst hp src).regs r hflags hregs hhalves

/-! ## One element (R391 to R395) -/

/-- An instruction that is MOV and then moves pointers, its destination no pointer. -/
theorem movesElement_of_exec {n : Nat} {i : Instr} {dst src : State → Place n} {size : Word} {ptrs : List RegId}
    (hptrs : ptrs ⊆ [.si, .di]) (hp : ∀ s, (dst s).plain) (ha : ∀ s, (dst s).Avoids [.si, .di])
    (hexec : ∀ s, ∃ t, exec i s = .next t ∧ Bumps (s.move (dst s) (.place (src s))) t (s.stringDelta size) ptrs) :
    MovesElement i dst src size ptrs := by
  intro s
  obtain ⟨t, ht, hb⟩ := hexec s
  have hav := (ha s).mono hptrs
  obtain ⟨hvalue, hkept, htrace⟩ := move_spec s (dst s) (hp s) (.place (src s))
  refine ⟨t, ht, (hb.kept.valueOf_of_avoids (hp s) hav).trans hvalue, fun p hm => ?_, (hkept.trans hb.kept).and_comm,
    hb.trace.trans htrace⟩
  rw [hb.moved p hm, reg_move_of_avoids s _ (hp s) hav hm, s.stringDelta_eq_pointerStep]

/-- An instruction that is CMP and then moves pointers. -/
theorem comparesElements_of_exec {n : Nat} {i : Instr} {a b : State → Place n} {size : Word} {ptrs : List RegId}
    (hf : .flags ∉ ptrs)
    (hexec : ∀ s, ∃ t, exec i s = .next t ∧ Bumps (s.alu .cmp (a s) (.place (b s))) t (s.stringDelta size) ptrs) :
    ComparesElements i a b size ptrs := by
  intro s
  obtain ⟨t, ht, hb⟩ := hexec s
  obtain ⟨⟨hcf, hpf, haf, hzf, hsf, hof⟩, hkept, htrace⟩ := cmp_spec s (a s) (.place (b s))
  have hflag : ∀ g, t.flag g = (s.alu .cmp (a s) (.place (b s))).flag g := fun g => hb.kept.flags g nofun
  refine ⟨t, _, _, ht, subN_rule _ _ _, ?_, fun p hm => ?_, ?_, hb.trace.trans htrace⟩
  · exact ⟨(hflag _).trans hcf, (hflag _).trans hpf, (hflag _).trans haf, (hflag _).trans hzf, (hflag _).trans hsf,
      (hflag _).trans hof⟩
  · rw [hb.moved p hm, hkept.regs p (fun e => hf (e ▸ hm)) nofun nofun, s.stringDelta_eq_pointerStep]
  · simpa [Footprint.and] using hkept.trans hb.kept

/-- Settles O49: each string instruction is a MOV or a CMP followed by its pointers moved. -/
theorem stringInstructionsDoOneElement : Obligations.StringInstructionsDoOneElement :=
  ⟨movesElement_of_exec (by decide) (fun _ => trivial) (fun _ => Place.avoids_byteAt _)
      fun _ => ⟨_, rfl, bumpSi_bumpDi_bumps _ _⟩,
    movesElement_of_exec (by decide) (fun _ => trivial) (fun _ => Place.avoids_wordAt _)
      fun _ => ⟨_, rfl, bumpSi_bumpDi_bumps _ _⟩,
    movesElement_of_exec (by decide) (fun _ => trivial) (fun _ => Place.avoids_byteAt _) fun _ => ⟨_, rfl, bumpDi_bumps _ _⟩,
    movesElement_of_exec (by decide) (fun _ => trivial) (fun _ => Place.avoids_wordAt _) fun _ => ⟨_, rfl, bumpDi_bumps _ _⟩,
    movesElement_of_exec (by decide) (fun _ => placeAl_plain) (fun _ => placeAl_avoids) fun _ => ⟨_, rfl, bumpSi_bumps _ _⟩,
    movesElement_of_exec (by decide) (fun _ => placeAx_plain) (fun _ => placeAx_avoids) fun _ => ⟨_, rfl, bumpSi_bumps _ _⟩,
    comparesElements_of_exec (by decide) fun _ => ⟨_, rfl, bumpSi_bumpDi_bumps _ _⟩,
    comparesElements_of_exec (by decide) fun _ => ⟨_, rfl, bumpSi_bumpDi_bumps _ _⟩,
    comparesElements_of_exec (by decide) fun _ => ⟨_, rfl, bumpDi_bumps _ _⟩,
    comparesElements_of_exec (by decide) fun _ => ⟨_, rfl, bumpDi_bumps _ _⟩⟩

/-! ## One iteration of the repetition (R401) -/

/-- One iteration: the string instruction, then CX lowered by 1. -/
def State.iteration (s : State) (op : StringOp) : State := (s.stringOnce op).setReg .cx ((s.stringOnce op).reg .cx - 1)

theorem afterIterations_succ (op : StringOp) (k : Nat) (s : State) :
    afterIterations op (k + 1) s = (afterIterations op k s).iteration op := rfl

theorem afterIterations_iteration (op : StringOp) (k : Nat) (s : State) :
    afterIterations op k (s.iteration op) = afterIterations op (k + 1) s := by
  induction k with
  | zero => rfl
  | succ k ih => rw [afterIterations_succ, ih, ← afterIterations_succ]

/-- A string instruction writes no register but the accumulator, the pointers and FLAGS. -/
theorem reg_stringOnce (s : State) (op : StringOp) {r : RegId} (hr : r ∉ [RegId.ax, .si, .di, .flags]) :
    (s.stringOnce op).reg r = s.reg r := by
  obtain ⟨f, hf, hregs, hhalves, -⟩ := kept_stringOnce s op
  simp only [List.mem_cons, List.not_mem_nil, or_false, not_or] at hr
  obtain ⟨hax, hsi, hdi, hflags⟩ := hr
  refine hf.regs r hflags (fun hm => ?_) fun x hx e => ?_
  · simpa [hax, hsi, hdi] using hregs hm
  · rw [hhalves x hx] at e
    exact hax e.symm

theorem reg_iteration_of_ne (s : State) (op : StringOp) {r : RegId} (hr : r ≠ .cx) :
    (s.iteration op).reg r = (s.stringOnce op).reg r :=
  (State.reg_setReg _ _ _ _).trans (if_neg hr)

theorem reg_cx_iteration (s : State) (op : StringOp) : (s.iteration op).reg .cx = s.reg .cx - 1 := by
  rw [State.iteration, reg_stringOnce s op (by decide)]
  exact (State.reg_setReg _ _ _ _).trans (if_pos rfl)

theorem reg_cx_afterIterations (op : StringOp) (k : Nat) (s : State) :
    (afterIterations op k s).reg .cx = s.reg .cx - BitVec.ofNat 16 k := by
  induction k with
  | zero => simp [afterIterations]
  | succ k ih =>
    rw [afterIterations_succ, reg_cx_iteration, ih, BitVec.ofNat_add]
    bv_omega

/-! ## The repetition is so many iterations (R401) -/

theorem repeatWhile_succ {s : State} (op : StringOp) (goesOn : State → Bool) (fuel : Nat) (h : s.reg .cx ≠ 0) :
    s.repeatWhile op goesOn (fuel + 1) =
      if goesOn (s.iteration op) then (s.iteration op).repeatWhile op goesOn fuel else s.iteration op := by
  rw [State.repeatWhile, if_neg h]
  rfl

/-- If the first iteration goes on, the repetition from `s` stops one iteration later than that from the state after it. -/
theorem StopsAfter.succ {op : StringOp} {goesOn : State → Bool} {s : State} {k : Nat} (hcx : s.reg .cx ≠ 0)
    (hfirst : goesOn (s.iteration op) = true) (h : StopsAfter op goesOn (s.iteration op) k) :
    StopsAfter op goesOn s (k + 1) := by
  obtain ⟨hle, hbefore, hstop⟩ := h
  have hpred : ((s.iteration op).reg .cx).toNat + 1 = (s.reg .cx).toNat := by
    rw [reg_cx_iteration]
    bv_omega
  refine ⟨by omega, fun j hj hjk => ?_, fun hk => ⟨Nat.succ_pos k, ?_⟩⟩
  · obtain ⟨j, rfl⟩ := Nat.exists_eq_succ_of_ne_zero (Nat.ne_of_gt hj)
    rw [← afterIterations_iteration]
    rcases Nat.eq_zero_or_pos j with rfl | hpos
    · exact hfirst
    · exact hbefore j hpos (Nat.lt_of_succ_lt_succ hjk)
  · rw [← afterIterations_iteration]
    obtain ⟨-, hno⟩ := hstop (by omega)
    exact hno

/-- With CX as its bound, the repetition is as many iterations as R401 says. -/
theorem repeatWhile_eq_afterIterations (op : StringOp) (goesOn : State → Bool) (s : State) :
    ∃ k, s.repeatWhile op goesOn (s.reg .cx).toNat = afterIterations op k s ∧ StopsAfter op goesOn s k := by
  induction hn : (s.reg .cx).toNat generalizing s with
  | zero => exact ⟨0, rfl, Nat.zero_le _, nofun, fun h => absurd (hn ▸ h) (Nat.lt_irrefl 0)⟩
  | succ n ih =>
    have hcx : s.reg .cx ≠ 0 := fun e => by simp [e] at hn
    have hpred : ((s.iteration op).reg .cx).toNat = n := by
      rw [reg_cx_iteration]
      bv_omega
    rw [repeatWhile_succ op goesOn n hcx]
    split
    · rename_i hfirst
      obtain ⟨k, hk, hstops⟩ := ih (s.iteration op) hpred
      exact ⟨k + 1, hk.trans (afterIterations_iteration op k s), hstops.succ hcx hfirst⟩
    · rename_i hfirst
      exact ⟨1, rfl, by omega, fun j hj h1 => by omega, fun _ => ⟨Nat.one_pos, Bool.eq_false_iff.2 hfirst⟩⟩

theorem repGoesOn_eq (op : StringOp) : repGoesOn op = fun t => !comparesString op || t.flag .zf := by
  cases op <;> rfl

theorem exec_plainString (op : StringOp) (s : State) : exec (plainString op) s = .next (s.stringOnce op) := by
  cases op <;> rfl

/-- Settles O50: REP and REPNE run `repeatWhile` with CX as its bound, and go on by the test of R401. -/
theorem repetitionRunsToItsEnd : Obligations.RepetitionRunsToItsEnd := by
  refine ⟨exec_plainString, fun op s => ?rep, fun op s => ?repne⟩
  case rep =>
    obtain ⟨k, hk, hstops⟩ := repeatWhile_eq_afterIterations op (repGoesOn op) s
    exact ⟨k, congrArg _ hk, repGoesOn_eq op ▸ hstops, reg_cx_afterIterations op k s⟩
  case repne =>
    obtain ⟨k, hk, hstops⟩ := repeatWhile_eq_afterIterations (CompareOp.toStringOp op) repneGoesOn s
    exact ⟨k, congrArg _ hk, hstops, reg_cx_afterIterations _ k s⟩

end Sys2Proof.Machine

/-! SUPPORT. REP MOVS, STOS and LODS (49_string.md R403): nothing but CX ends them, the pointers stand `count` elements further, and memory holds at each address the last byte stored there. -/

namespace Sys2Proof.Machine

/-! ## CX elements, whatever ZF is -/

theorem rep_eq_afterIterations {op : StringOp} (hop : op ∈ moveStrings) (s : State) :
    exec (.rep op) s = .next (afterIterations op (s.reg .cx).toNat s) := by
  obtain ⟨k, hk, hle, -, hstop⟩ := repeatWhile_eq_afterIterations op (repGoesOn op) s
  have hgoesOn : ∀ t, repGoesOn op t = true := fun t => by
    have hall : ∀ o ∈ moveStrings, comparesString o = false := by decide
    simp [repGoesOn_eq, hall op hop]
  have hall : k = (s.reg .cx).toNat := by
    refine Nat.le_antisymm hle (Nat.le_of_not_lt fun hlt => ?_)
    obtain ⟨-, hno⟩ := hstop hlt
    exact absurd ((hgoesOn _).symm.trans hno) nofun
  exact congrArg _ (hk.trans (by rw [hall]))

theorem flags_stringOnce {op : StringOp} (hop : op ∈ moveStrings) (s : State) :
    (s.stringOnce op).reg .flags = s.reg .flags := by
  obtain ⟨f, hf, -, -, -, hnone, -⟩ := kept_stringOnce s op
  exact hf.flagsWord (hnone hop)

theorem flags_afterIterations {op : StringOp} (hop : op ∈ moveStrings) (k : Nat) (s : State) :
    (afterIterations op k s).reg .flags = s.reg .flags := by
  induction k with
  | zero => rfl
  | succ k ih => rw [afterIterations_succ, reg_iteration_of_ne _ op (by decide), flags_stringOnce hop, ih]

/-- The registers that no string instruction and no repetition writes. -/
theorem reg_afterIterations (op : StringOp) (k : Nat) (s : State) {r : RegId} (hr : r ∉ [RegId.ax, .si, .di, .flags])
    (hcx : r ≠ .cx) : (afterIterations op k s).reg r = s.reg r := by
  induction k with
  | zero => rfl
  | succ k ih => rw [afterIterations_succ, reg_iteration_of_ne _ op hcx, reg_stringOnce _ op hr, ih]

/-! ## The pointers (R390) -/

theorem pointerStep_congr {s t : State} (h : t.reg .flags = s.reg .flags) (size : Word) :
    pointerStep t size = pointerStep s size := by
  have hdf : t.flag .df = s.flag .df := congrArg (·.getLsbD Flag.df.bit) h
  rw [pointerStep, pointerStep, hdf]

/-- The pointers a string instruction moves. -/
def pointersUsed : StringOp → List RegId
  | .movsb | .movsw | .cmpsb | .cmpsw => [.si, .di]
  | .stosb | .stosw | .scasb | .scasw => [.di]
  | .lodsb | .lodsw => [.si]

/-- The size of its elements. -/
def elementSize : StringOp → Word
  | .movsb | .cmpsb | .stosb | .lodsb | .scasb => 1
  | .movsw | .cmpsw | .stosw | .lodsw | .scasw => 2

/-- The size by which it moves a register: 0 when the register is no pointer in use. -/
def pointerSize (op : StringOp) (r : RegId) : Word := if r ∈ pointersUsed op then elementSize op else 0

theorem pointerSize_table :
    (∀ op ∈ [StringOp.movsb, .lodsb], pointerSize op .si = 1) ∧ (∀ op ∈ [StringOp.movsw, .lodsw], pointerSize op .si = 2) ∧
    (∀ op ∈ [StringOp.movsb, .stosb], pointerSize op .di = 1) ∧ (∀ op ∈ [StringOp.movsw, .stosw], pointerSize op .di = 2) ∧
    (∀ op ∈ [StringOp.stosb, .stosw], pointerSize op .si = 0) ∧
    (∀ op ∈ [StringOp.lodsb, .lodsw], pointerSize op .di = 0) := by decide

/-- A MOV followed by pointers moved, with SI and DI told one by one. -/
theorem reg_of_move_bumps {s t : State} {n : Nat} {dst : Place n} {src : Source n} {size : Word} {ptrs : List RegId}
    (hp : dst.plain) (ha : dst.Avoids [.si, .di]) (hb : Bumps (s.move dst src) t (s.stringDelta size) ptrs) {r : RegId}
    (hr : r ∈ [RegId.si, .di]) : t.reg r = s.reg r + pointerStep s (if r ∈ ptrs then size else 0) := by
  have hmove := reg_move_of_avoids s src hp ha hr
  split
  · rename_i hm
    rw [hb.moved r hm, hmove, s.stringDelta_eq_pointerStep]
  · rename_i hm
    obtain ⟨hflags, -⟩ := ha r hr
    rw [hb.kept.regs r hflags hm nofun, hmove, pointerStep_zero, add_zero]

theorem pointer_stringOnce {op : StringOp} (hop : op ∈ moveStrings) (s : State) {r : RegId} (hr : r ∈ [RegId.si, .di]) :
    (s.stringOnce op).reg r = s.reg r + pointerStep s (pointerSize op r) := by
  cases op with
  | movsb => exact reg_of_move_bumps (Place.byteAt_plain _) (Place.avoids_byteAt _) (bumpSi_bumpDi_bumps _ _) hr
  | movsw => exact reg_of_move_bumps (Place.wordAt_plain _) (Place.avoids_wordAt _) (bumpSi_bumpDi_bumps _ _) hr
  | stosb => exact reg_of_move_bumps (Place.byteAt_plain _) (Place.avoids_byteAt _) (bumpDi_bumps _ _) hr
  | stosw => exact reg_of_move_bumps (Place.wordAt_plain _) (Place.avoids_wordAt _) (bumpDi_bumps _ _) hr
  | lodsb => exact reg_of_move_bumps placeAl_plain placeAl_avoids (bumpSi_bumps _ _) hr
  | lodsw => exact reg_of_move_bumps placeAx_plain placeAx_avoids (bumpSi_bumps _ _) hr
  | cmpsb | cmpsw | scasb | scasw => exact absurd hop (by decide)

theorem pointer_afterIterations {op : StringOp} (hop : op ∈ moveStrings) (k : Nat) (s : State) {r : RegId}
    (hr : r ∈ [RegId.si, .di]) :
    (afterIterations op k s).reg r = s.reg r + BitVec.ofNat 16 k * pointerStep s (pointerSize op r) := by
  have hne : ∀ q ∈ [RegId.si, .di], q ≠ .cx := by decide
  induction k with
  | zero => simp [afterIterations]
  | succ k ih =>
    rw [afterIterations_succ, reg_iteration_of_ne _ op (hne r hr), pointer_stringOnce hop _ hr, ih,
      pointerStep_congr (flags_afterIterations hop k s), BitVec.add_assoc, BitVec.ofNat_add, BitVec.add_mul, BitVec.one_mul]

theorem pointer_afterIterations_of_size {op : StringOp} (hop : op ∈ moveStrings) (k : Nat) (s : State) {r : RegId}
    (hr : r ∈ [RegId.si, .di]) {size : Word} (h : pointerSize op r = size) :
    (afterIterations op k s).reg r = s.reg r + BitVec.ofNat 16 k * pointerStep s size :=
  h ▸ pointer_afterIterations hop k s hr

theorem pointer_afterIterations_of_unused {op : StringOp} (hop : op ∈ moveStrings) (k : Nat) (s : State) {r : RegId}
    (hr : r ∈ [RegId.si, .di]) (h : pointerSize op r = 0) : (afterIterations op k s).reg r = s.reg r := by
  rw [pointer_afterIterations_of_size hop k s hr h, pointerStep_zero, mul_zero, add_zero]

/-! ## The elements (R390, R391 to R393) -/

theorem stringDst_afterIterations {op : StringOp} (hop : op ∈ moveStrings) (h : pointerSize op .di = 1) (k : Nat)
    (s : State) : (afterIterations op k s).stringDst = elementAddr s .es (s.reg .di) k := by
  rw [State.stringDst, reg_afterIterations op k s (by decide) (by decide),
    pointer_afterIterations_of_size hop k s (by decide) h, elementAddr]

theorem stringSrc_afterIterations {op : StringOp} (hop : op ∈ moveStrings) (h : pointerSize op .si = 1) (k : Nat)
    (s : State) : (afterIterations op k s).stringSrc = elementAddr s .ds (s.reg .si) k := by
  rw [State.stringSrc, reg_afterIterations op k s (by decide) (by decide),
    pointer_afterIterations_of_size hop k s (by decide) h, elementAddr]

theorem phys_injective (seg : Word) : Function.Injective (phys seg) := by
  intro a b h
  have hnat := congrArg BitVec.toNat h
  rw [toNat_phys, toNat_phys] at hnat
  have ha := a.isLt
  have hb := b.isLt
  exact BitVec.eq_of_toNat_eq (by omega)

/-- A byte element up and a byte element down are each their own inverse modulo 2^16. -/
theorem pointerStep_one_mul_self (s : State) : pointerStep s 1 * pointerStep s 1 = 1 := by
  unfold pointerStep
  split <;> decide

/-- Fewer than 65536 byte elements lie at different addresses. -/
theorem elementAddr_inj {s : State} {seg : RegId} {off : Word} {j k : Nat} (hj : j < 2 ^ 16) (hk : k < 2 ^ 16)
    (h : elementAddr s seg off j = elementAddr s seg off k) : j = k := by
  have hoff := (BitVec.add_right_inj off).mp (phys_injective _ h)
  have hword : BitVec.ofNat 16 j = BitVec.ofNat 16 k :=
    calc BitVec.ofNat 16 j
        = BitVec.ofNat 16 j * pointerStep s 1 * pointerStep s 1 := by rw [mul_assoc, pointerStep_one_mul_self, mul_one]
      _ = BitVec.ofNat 16 k * pointerStep s 1 * pointerStep s 1 := by rw [hoff]
      _ = BitVec.ofNat 16 k := by rw [mul_assoc, pointerStep_one_mul_self, mul_one]
  have hnat := congrArg BitVec.toNat hword
  rwa [BitVec.toNat_ofNat, BitVec.toNat_ofNat, Nat.mod_eq_of_lt hj, Nat.mod_eq_of_lt hk] at hnat

theorem byteAt_afterIterations_movsb (k : Nat) (s : State) (a : PAddr) :
    (afterIterations .movsb (k + 1) s).byteAt a =
      if a = elementAddr s .es (s.reg .di) k then (afterIterations .movsb k s).byteAt (elementAddr s .ds (s.reg .si) k)
      else (afterIterations .movsb k s).byteAt a := by
  rw [← stringDst_afterIterations (op := .movsb) (by decide) rfl, ← stringSrc_afterIterations (op := .movsb) (by decide) rfl]
  exact State.byteAt_storeByte ((afterIterations .movsb k s).emit _) _ a _

theorem al_afterIterations_stosb (k : Nat) (s : State) : (afterIterations .stosb k s).reg8 .al = s.reg8 .al := by
  induction k with
  | zero => rfl
  | succ k ih => exact ih

theorem byteAt_afterIterations_stosb (k : Nat) (s : State) (a : PAddr) :
    (afterIterations .stosb (k + 1) s).byteAt a =
      if a = elementAddr s .es (s.reg .di) k then s.reg8 .al else (afterIterations .stosb k s).byteAt a := by
  rw [← stringDst_afterIterations (op := .stosb) (by decide) rfl, ← al_afterIterations_stosb k s]
  exact State.byteAt_storeByte (afterIterations .stosb k s) _ a _

theorem byteAt_afterIterations_lods {op : StringOp} (hop : op ∈ [StringOp.lodsb, .lodsw]) (k : Nat) (s : State) (a : PAddr) :
    (afterIterations op k s).byteAt a = s.byteAt a := by
  induction k with
  | zero => rfl
  | succ k ih =>
    simp only [List.mem_cons, List.not_mem_nil, or_false] at hop
    rcases hop with rfl | rfl <;> exact ih

theorem al_afterIterations_lodsb (k : Nat) (s : State) :
    (afterIterations .lodsb (k + 1) s).reg8 .al = s.byteAt (elementAddr s .ds (s.reg .si) k) := by
  rw [← byteAt_afterIterations_lods (op := .lodsb) (by decide) k s,
    ← stringSrc_afterIterations (op := .lodsb) (by decide) rfl]
  exact State.reg8_setReg8_self ((afterIterations .lodsb k s).emit _) .al _

theorem ah_afterIterations_lodsb (k : Nat) (s : State) : (afterIterations .lodsb k s).reg8 .ah = s.reg8 .ah := by
  induction k with
  | zero => rfl
  | succ k ih =>
    exact (State.reg8_setReg8 ((afterIterations .lodsb k s).emit _) .al .ah _).trans ((if_neg (by decide)).trans ih)

/-! ## Memory after many stores -/

section Stores

variable {op : StringOp} {s : State} {dst : Nat → PAddr} {val : Nat → Byte}
  (hstore : ∀ k a, (afterIterations op (k + 1) s).byteAt a =
    if a = dst k then val k else (afterIterations op k s).byteAt a)

include hstore

theorem byteAt_afterIterations_of_notStored {k : Nat} {a : PAddr} (h : ∀ j, j < k → a ≠ dst j) :
    (afterIterations op k s).byteAt a = s.byteAt a := by
  induction k with
  | zero => rfl
  | succ k ih => rw [hstore, if_neg (h k (Nat.lt_succ_self k)), ih fun j hj => h j (Nat.lt_succ_of_lt hj)]

/-- Where something was stored, the byte of some store to the same address stands. -/
theorem byteAt_afterIterations_of_stored {k j : Nat} (hj : j < k) :
    ∃ i, i < k ∧ dst j = dst i ∧ (afterIterations op k s).byteAt (dst j) = val i := by
  induction k with
  | zero => exact absurd hj (Nat.not_lt_zero j)
  | succ k ih =>
    rw [hstore]
    by_cases h : dst j = dst k
    · exact ⟨k, Nat.lt_succ_self k, h, if_pos h⟩
    · have hjk : j < k := Nat.lt_of_le_of_ne (Nat.le_of_lt_succ hj) fun e => h (e ▸ rfl)
      obtain ⟨i, hi, hdst, hval⟩ := ih hjk
      exact ⟨i, Nat.lt_succ_of_lt hi, hdst, (if_neg h).trans hval⟩

end Stores

/-- REP MOVSB copies every element when no destination is a source. -/
theorem byteAt_afterIterations_movsb_of_disjoint {s : State} {count k : Nat} (hcount : count < 2 ^ 16) (hk : k < count)
    (hdisjoint : ∀ j k, j < count → k < count → elementAddr s .es (s.reg .di) j ≠ elementAddr s .ds (s.reg .si) k) :
    (afterIterations .movsb count s).byteAt (elementAddr s .es (s.reg .di) k) =
      s.byteAt (elementAddr s .ds (s.reg .si) k) := by
  have hstore := fun k a => byteAt_afterIterations_movsb k s a
  obtain ⟨i, hi, hdst, hval⟩ := byteAt_afterIterations_of_stored hstore hk
  have hik : k = i := elementAddr_inj (Nat.lt_trans hk hcount) (Nat.lt_trans hi hcount) hdst
  rw [hval, ← hik]
  exact byteAt_afterIterations_of_notStored hstore fun j hj => (hdisjoint j k (Nat.lt_trans hj hk) hk).symm

/-- The registers after REP MOVS, STOS and LODS. -/
theorem rep_registers {op : StringOp} (hop : op ∈ moveStrings) (s : State) {count : Nat}
    (hcount : (s.reg .cx).toNat = count) :
    (afterIterations op count s).reg .cx = 0 ∧ (afterIterations op count s).reg .flags = s.reg .flags :=
  ⟨by rw [reg_cx_afterIterations, ← hcount, BitVec.ofNat_toNat, BitVec.setWidth_eq, sub_self],
    flags_afterIterations hop count s⟩

/-- Settles O51: all six are CX iterations; the pointers and the bytes after so many iterations are those of the lemmas above. -/
theorem repMovesExactlyCxElements : Obligations.RepMovesExactlyCxElements := by
  intro s count hcount
  have hexec : ∀ op ∈ moveStrings, exec (.rep op) s = .next (afterIterations op count s) := fun op hop =>
    hcount ▸ rep_eq_afterIterations hop s
  have hlt : count < 2 ^ 16 := hcount ▸ (s.reg .cx).isLt
  refine ⟨fun op hop => ⟨_, hexec op hop, ?_⟩, ⟨_, hexec .movsb (by decide), ?_, ?_⟩, ⟨_, hexec .stosb (by decide), ?_, ?_⟩,
    ⟨_, hexec .lodsb (by decide), ah_afterIterations_lodsb count s, fun k hk => hk ▸ al_afterIterations_lodsb k s⟩⟩
  · obtain ⟨hcx, hflags⟩ := rep_registers hop s hcount
    have hsize {r size} (h : pointerSize op r = size) (hr : r ∈ [RegId.si, .di]) :=
      pointer_afterIterations_of_size hop count s hr h
    have hunused {r} (h : pointerSize op r = 0) (hr : r ∈ [RegId.si, .di]) :=
      pointer_afterIterations_of_unused hop count s hr h
    obtain ⟨hsi1, hsi2, hdi1, hdi2, hsi0, hdi0⟩ := pointerSize_table
    exact ⟨hcx, hflags, fun h => hsize (hsi1 op h) (by decide), fun h => hsize (hsi2 op h) (by decide),
      fun h => hsize (hdi1 op h) (by decide), fun h => hsize (hdi2 op h) (by decide),
      fun h => hunused (hsi0 op h) (by decide),
      fun h => ⟨hunused (hdi0 op h) (by decide), byteAt_afterIterations_lods h count s⟩⟩
  · exact fun hdisjoint k hk => byteAt_afterIterations_movsb_of_disjoint hlt hk hdisjoint
  · exact fun a ha => byteAt_afterIterations_of_notStored (fun k a => byteAt_afterIterations_movsb k s a) ha
  · intro k hk
    obtain ⟨_, -, -, hval⟩ := byteAt_afterIterations_of_stored (fun k a => byteAt_afterIterations_stosb k s a) hk
    exact hval
  · exact fun a ha => byteAt_afterIterations_of_notStored (fun k a => byteAt_afterIterations_stosb k s a) ha

end Sys2Proof.Machine
